-- ==== Sys2Proof/Word.lean ====
section
/-! DEFINITION. The words of the part: bytes, 16- and 32-bit fields, time tags, and quantities. -/

namespace Sys2Proof

/-- One byte of the host line or of a lane. -/
abbrev Byte := BitVec 8

/-- A two-byte field, sent most significant byte first. -/
abbrev Word16 := BitVec 16

/-- A four-byte field, sent most significant byte first. -/
abbrev Word32 := BitVec 32

/-- A time tag: milliseconds since the last full reset, 32 bits wide, wrapping to 0 (00_scope.md, "Time tags"). -/
abbrev TimeTag := BitVec 32

/-- A quantity: a whole number of steps of its kind, or INVALID, which is `none` (R1). -/
abbrev Qty := Option Int

end Sys2Proof
end

