-- ==== Sys2Proof/Machine/Types.lean ====
section
/-! DEFINITION. The named sets of values of the manual: one inductive type for each. Their codes are in
Machine/Operands.lean. -/

namespace Sys2Proof

/-- R17. -/
inductive RunState where | standby | active | limp | winddown
  deriving DecidableEq, Repr

/-- R18: one limp cause. -/
inductive LimpCause where | miuLost | buLost | linkDown | service | demandLost
  deriving DecidableEq, Repr

/-- Zones of a segment (R74). -/
inductive Zone where | openZone | lowEmission | zeroEmission | quiet
  deriving DecidableEq, Repr

/-- R106. -/
inductive SplitMode where | ev | assist | charge | engineOnly | regen | parkedCharge | limp
  deriving DecidableEq, Repr

/-- R116; also the EU's reported clutch state (R147). -/
inductive Clutch where | opened | slip | closed
  deriving DecidableEq, Repr

/-- Class of an auxiliary channel (R34). -/
inductive LoadClass where | essential | deferrable
  deriving DecidableEq, Repr

/-- R51. -/
inductive Pool where | battery | generation
  deriving DecidableEq, Repr

/-- R67 to R69. -/
inductive RevokeReason where | budget | limp | winddown
  deriving DecidableEq, Repr

/-- R56, R57. -/
inductive ArbiterMode where | fixed | weighted
  deriving DecidableEq, Repr

/-- The lists of the Horizon Store by name (R72). -/
inductive ListName where | pageA | pageB | single
  deriving DecidableEq, Repr

/-- R78, R79. -/
inductive SwapForm where | immediate | atBoundary
  deriving DecidableEq, Repr

/-- R84. -/
inductive EmptyCause where | completed | cleared | organised
  deriving DecidableEq, Repr

/-- R82, R85. -/
inductive DoneReason where | completed | skipped
  deriving DecidableEq, Repr

/-- The nine engine states (R126). -/
inductive EngineState where
  | off | cranking | resting | warming | running | holding | stopping | barred | detached
  deriving DecidableEq, Repr

/-- The causes of an engine state change (R144). -/
inductive EngineCause where
  | wanted | notWanted | fired | startFailed | restEnd | warmed | warmLimit | minRun | stopped | stopLimit
  | zone | winddown | service | euFault | euLost | euRestored | rearm
  deriving DecidableEq, Repr

/-- R129. -/
inductive StartPath where | primary | alternate
  deriving DecidableEq, Repr

/-- R133. -/
inductive StartFailure where | crankLimit | euFault | noPath
  deriving DecidableEq, Repr

/-- R140. -/
inductive BarReason where | startFail | stopFail | fault
  deriving DecidableEq, Repr

/-- RETRY1 of the engine (R127) and of a unit (R148). -/
inductive Retry1 where | same | other
  deriving DecidableEq, Repr

/-- RETRY2 of the engine (R127) and of a unit (R148). -/
inductive Retry2 where | same | other | off
  deriving DecidableEq, Repr

/-- R146. -/
inductive UnitId where | miu | eu | bu | acu
  deriving DecidableEq, Repr

/-- R146. -/
inductive Health where | disabled | joining | present | lost
  deriving DecidableEq, Repr

/-- R149. -/
inductive LaneId where | a | b
  deriving DecidableEq, Repr

/-- R149. -/
inductive LaneState where | good | suspect | failed | absent
  deriving DecidableEq, Repr

/-- R150. -/
inductive LaneCause where | echo | silent | transmitLimit | cleanRun | probeGood | probeBad | cancelled
  deriving DecidableEq, Repr

/-- The four discrete inputs (R26). -/
inductive Line where | ign | svc | plug | aux
  deriving DecidableEq, Repr

/-- R27. -/
inductive EdgeSelect where | rising | falling | both
  deriving DecidableEq, Repr

/-- R10. -/
inductive FitMode where | saturate | proportional
  deriving DecidableEq, Repr

/-- R187. -/
inductive Polarity where | activeLow | activeHigh
  deriving DecidableEq, Repr

/-- The four conditions, and the holds named after them (R13). -/
inductive HoldName where | overflow | underflow | divideCheck | invalid
  deriving DecidableEq, Repr

/-- Result codes of a reply (00_scope.md). -/
inductive ResultCode where
  | done | accepted | state | range | order | full | absent | duplicate | late | spent | busy | frame | unknown
  deriving DecidableEq, Repr

/-- The 25 event kinds (00_scope.md). -/
inductive EventKind where
  | runState | lineEdge | demandLost | demandRestored | grantOffered | grantExpired | grantRevoked
  | grantExhausted | auxOverdraw | segmentDone | zoneEntry | swapDone | horizonEmpty | reserveShort
  | holdSet | zoneDepleted | engineState | startFailed | engineBarred | unitLost | unitRestored
  | unitStatusSet | laneState | frameOverrun | stackHalf
  deriving DecidableEq, Repr

/-- The receiver's states (R173). -/
inductive Receiver where | hunt | header | body | discard
  deriving DecidableEq, Repr

/-- EU order request (R143). -/
inductive EuRequest where | stop | crank | run
  deriving DecidableEq, Repr

/-- MIU order mode (R158). -/
inductive MiuMode where | drive | regen | crank | parkCharge | standby
  deriving DecidableEq, Repr

/-- The configuration items (10_message_and_record_layouts.md, "Configuration items"). -/
inductive Item where
  | fitMode | trapping | ignEdge | svcEdge | plugEdge | auxEdge | ignEvent | svcEvent | plugEvent | auxEvent
  | demandTimeout | confirmTimeout | defaultZone | batteryCapacity | socFloor | chargeMargin | lookAhead
  | engineBaseTorque | parkedChargeSpeed | limpCap | firstPath | retry1 | retry2 | crankLimit | crankTorque
  | restTime | lightOff | warmLimit | warmCap | minRun | framePeriod | preferredLane | responseLimit
  | lossLimit | alertPolarity | limpOutPolarity | chargePower | parkedChargePower
  deriving DecidableEq, Repr

/-- The straps as sampled at the release of full reset (R29): BELT FITTED, LANES SINGLE, RATE 2 Mbit/s. -/
structure Straps where
  beltFitted : Bool
  lanesSingle : Bool
  rateTwoMbit : Bool
  deriving DecidableEq, Repr

/-- A level for each discrete input, asserted or not (R26). -/
structure Levels where
  ign : Bool
  svc : Bool
  plug : Bool
  aux : Bool
  deriving DecidableEq, Repr

end Sys2Proof
end

