-- ==== Sys2Proof/Syntax.lean ====
section
/-! DEFINITION. The commands: one constructor for each row of spec/opcode_table.json.

A request row is the EXECUTION of that request by the Message Port (R177). Its operands are the tag and the payload
bytes of the request's frame, as the receive queue holds them (R176, R188); the fields are read from the payload by
the layouts chapter. The other rows carry what their cause brings from outside the part: a byte, a line and its level,
a channel whose timer ends, a lane, a check value heard, the bytes of a record. -/

namespace Sys2Proof

/-- One row of the opcode table with its operands. -/
inductive Instr where
  | fullReset (straps : Straps) (levels : Levels)
  | holdsTest (tag : Byte) (payload : List Byte)
  | holdsClear (tag : Byte) (payload : List Byte)
  | identify (tag : Byte) (payload : List Byte)
  | run (tag : Byte) (payload : List Byte)
  | halt (tag : Byte) (payload : List Byte)
  | limpClear (tag : Byte) (payload : List Byte)
  | runRead (tag : Byte) (payload : List Byte)
  | configSet (tag : Byte) (payload : List Byte)
  | configGet (tag : Byte) (payload : List Byte)
  | linesRead (tag : Byte) (payload : List Byte)
  | channelOpen (tag : Byte) (payload : List Byte)
  | channelClose (tag : Byte) (payload : List Byte)
  | channelRead (tag : Byte) (payload : List Byte)
  | demand (tag : Byte) (payload : List Byte)
  | grantAsk (tag : Byte) (payload : List Byte)
  | grantConfirm (tag : Byte) (payload : List Byte)
  | grantRelease (tag : Byte) (payload : List Byte)
  | grantWithdraw (tag : Byte) (payload : List Byte)
  | pacingClear (tag : Byte) (payload : List Byte)
  | arbiterSet (tag : Byte) (payload : List Byte)
  | planOrganise (tag : Byte) (payload : List Byte)
  | segmentAdd (tag : Byte) (payload : List Byte)
  | pageClear (tag : Byte) (payload : List Byte)
  | pageSwap (tag : Byte) (payload : List Byte)
  | positionFix (tag : Byte) (payload : List Byte)
  | horizonRead (tag : Byte) (payload : List Byte)
  | payloadSet (tag : Byte) (payload : List Byte)
  | consumptionSet (tag : Byte) (payload : List Byte)
  | splitRead (tag : Byte) (payload : List Byte)
  | zoneTableSet (tag : Byte) (payload : List Byte)
  | engineRead (tag : Byte) (payload : List Byte)
  | engineRearm (tag : Byte) (payload : List Byte)
  | unitSet (tag : Byte) (payload : List Byte)
  | unitRead (tag : Byte) (payload : List Byte)
  | laneRestore (tag : Byte) (payload : List Byte)
  | eventsRead (tag : Byte) (payload : List Byte)
  | noticeMaskSet (tag : Byte) (payload : List Byte)
  | alertMaskSet (tag : Byte) (payload : List Byte)
  | undefinedKind (kind : Byte) (tag : Byte) (payload : List Byte)
  | hostFrameComplete (lastByte : Byte)
  | frameGap
  | receiverHuntResume
  | hostLineBreak
  | transmissionStart
  | inputRawChange (line : Line) (level : Bool)
  | debounceExpiry (line : Line)
  | tractionDemandTimeout
  | brakeDemandTimeout
  | confirmTimerExpiry (channel : Nat)
  | exhaustionExpiry (channel : Nat)
  | solveCompletion
  | crankLimitExpiry
  | restExpiry
  | warmLimitExpiry
  | minRunExpiry
  | stopLimitExpiry
  | frameTimerExpiry
  | linkTransmissionEnd (lane : LaneId) (heard : Word16)
  | transmitLimitCutoff (lane : LaneId)
  | reportReceived (record : List Byte)
  | reportWaitExpiry
  | hostByteTaken (byte : Byte)
  | resetNAsserted
  deriving DecidableEq, Repr

end Sys2Proof
end

