-- ==== Sys2Proof/Decode.lean ====
section
/-! DEFINITION. The decoder over the rows of spec/opcode_table.json that give bits. The table gives bits to NO row
(spec/98_reader.md: n_rows_with_fixed 0, n_rows_with_fields 0): a command of this part is not spelled by a word, a
request reaches it as a framed message (R174 to R177), so every word is refused. -/

namespace Sys2Proof

/-- The command that the word w of nbits bits spells by the table's bits: none, since no row has bits. -/
def decodeTableWord (_nbits _w : Nat) : Option Instr := none

end Sys2Proof
end

