-- ==== Sys2Proof/Config.lean ====
section
/-! DEFINITION. What is fixed for the part (capacities, codes, limits that are not configuration items)
and the one free value of the model. -/

namespace Sys2Proof.Config

/-- Capacity of the receive queue (R173). -/
def receiveCapacity : Nat := 4

/-- Capacity of the reply queue (R178). -/
def replyCapacity : Nat := 4

/-- An execution begins only while fewer replies than this wait (R177). -/
def executionReplyLimit : Nat := 3

/-- Longest payload of a host frame (R174). -/
def maxPayload : Nat := 200

/-- Capacity of the Event Stack (R183). -/
def stackCapacity : Nat := 128

/-- The unread count whose reaching pushes STACK_HALF (R184). -/
def stackHalf : Nat := 64

/-- Capacity of the Grant Queue (R50). -/
def askCapacity : Nat := 16

/-- Number of auxiliary channels (R34). -/
def auxChannels : Nat := 10

/-- Capacity of one page in PAGED organisation (R75). -/
def pageCapacity : Nat := 64

/-- Capacity of the one list in SINGLE organisation (R75). -/
def singleCapacity : Nat := 128

/-- The largest energy of its kind, in Wh (00_scope.md; R64, R92, R93). -/
def energyMax : Nat := 65000

/-- Where every counter of the link stops (R146, R156). -/
def counterMax : Nat := 65535

/-- Clean transactions that bring a SUSPECT lane back to GOOD (R151). -/
def cleanRun : Nat := 16

/-- The debounce time in ms (R26). -/
def debounceMs : Nat := 5

/-- The stop limit in ms (R137). -/
def stopLimitMs : Nat := 3000

/-- The speed in rpm below which a power-to-torque conversion is not carried out (R4). -/
def conversionFloor : Int := 300

/-- The sync byte of a host frame (10_message_and_record_layouts.md, "The host frame"). -/
def syncByte : Byte := 0xC3#8

/-- Vendor, part and revision codes of IDENTIFY (10_message_and_record_layouts.md). -/
def vendorCode : Nat := 0x0B27
def partCode : Nat := 0x0240
def revisionCode : Nat := 2

/-- Values the part sends in an enumeration field for which the layouts chapter lists no code. -/
inductive UnlistedValue where
  | freshnessStale | freshnessFresh
  | demandTimerStopped | demandTimerRunning
  | channelClosed | channelOpen
  | chargeAheadInactive | chargeAheadActive
  | solveIdle | solveInFlight
  | framesNone | framesWaiting | framesInFrame
  | stateTimerNone | stateTimerCrankLimit | stateTimerRest | stateTimerWarmLimit | stateTimerStopLimit
  deriving DecidableEq, Repr

/-- FREE VALUE (log 8): the byte the part sends for a value whose code the spec does not list.
The spec gives the field 8 bits and no code, so nothing constrains it here. -/
opaque unlistedCode : UnlistedValue → Byte

end Sys2Proof.Config
end

