-- ==== Sys2Proof/Machine/State.lean ====
section
/-! DEFINITION. The state of the part: every register, queue, table, timer and mark the spec gives it, as plain data,
and its value right after full reset. INVENTORY.md lists each field with the rule that names it.

Units: torques in steps of 0.5 N·m, powers and power sums in steps of 0.1 kW, SOC in steps of 0.1 %, energies in Wh,
distances in m unless said otherwise, speeds in rpm, temperatures in °C. -/

namespace Sys2Proof.Machine

/-- No command of this part ends in a fault: what the manual calls a fault of a lane or of the EU is state (R150, R139). -/
inductive Fault where
  deriving DecidableEq, Repr

/-- Why a command has no meaning. No meaning of this model answers one. -/
inductive Refusal where
  /-- Safe. Raised only by an arm of exec whose row is not modelled yet. -/
  | notModelled (mnemonic : String)
  deriving DecidableEq, Repr

/-! ## Message Port and Event Stack -/

/-- A host frame without its sync byte, length and CRC: a request, a reply or a notice (R173, R189). -/
structure Frame where
  kind : Byte
  tag : Byte
  payload : List Byte
  deriving DecidableEq, Repr

/-- An entry of the Event Stack (R183). -/
structure Entry where
  tag : TimeTag
  kind : EventKind
  subject : Word16
  detail : Word32
  deriving DecidableEq, Repr

/-- What the Message Port holds (R173). The line rate is held in the RATE strap. -/
structure Port where
  receiver : Receiver
  partialFrame : List Byte
  received : List Frame
  executing : Option Frame
  replies : List Frame
  notice : Option Entry
  transmitting : Option Frame
  noticeMask : Word32
  deriving DecidableEq, Repr

/-- The Event Stack (R183), its entries oldest first, and the alert mask (R186). -/
structure Stack where
  entries : List Entry
  overrun : Bool
  alertMask : Word32
  deriving DecidableEq, Repr

/-- The two outputs, asserted or not (R186, R187). -/
structure Outputs where
  alert : Bool
  limpOut : Bool
  deriving DecidableEq, Repr

/-! ## Run Control and Line Interface -/

/-- The limp cause set (R18). -/
structure LimpCauses where
  miuLost : Bool
  buLost : Bool
  linkDown : Bool
  service : Bool
  demandLost : Bool
  deriving DecidableEq, Repr

/-- What Run Control holds (R17). -/
structure RunControl where
  state : RunState
  causes : LimpCauses
  lastChange : TimeTag
  deriving DecidableEq, Repr

/-- One discrete input (R26). Its edge select and event enable are configuration items (R27). -/
structure Input where
  level : Bool
  settling : Bool
  settledAt : TimeTag
  changedAt : TimeTag
  deriving DecidableEq, Repr

/-- The Line Interface (R26, R29). -/
structure Lines where
  ign : Input
  svc : Input
  plug : Input
  aux : Input
  straps : Straps
  deriving DecidableEq, Repr

/-! ## Configuration items -/

/-- Every configuration item, in the unit of its code (10_message_and_record_layouts.md, "Configuration items"). -/
structure Items where
  fitMode : FitMode
  trapping : Bool
  ignEdge : EdgeSelect
  svcEdge : EdgeSelect
  plugEdge : EdgeSelect
  auxEdge : EdgeSelect
  ignEvent : Bool
  svcEvent : Bool
  plugEvent : Bool
  auxEvent : Bool
  demandTimeout : Nat
  confirmTimeout : Nat
  defaultZone : Zone
  batteryCapacity : Nat
  socFloor : Nat
  chargeMargin : Nat
  lookAhead : Nat
  engineBaseTorque : Nat
  parkedChargeSpeed : Nat
  limpCap : Nat
  firstPath : StartPath
  retry1 : Retry1
  retry2 : Retry2
  crankLimit : Nat
  crankTorque : Nat
  restTime : Nat
  lightOff : Nat
  warmLimit : Nat
  warmCap : Nat
  minRun : Nat
  framePeriod : Nat
  preferredLane : LaneId
  responseLimit : Nat
  lossLimit : Nat
  alertPolarity : Polarity
  limpOutPolarity : Polarity
  chargePower : Nat
  parkedChargePower : Nat
  deriving DecidableEq, Repr

/-- The defaults of the items (R10, R14, R27, R37, R59, R84, R90, R120, R127, R153, R187). -/
def Items.default : Items where
  fitMode := .saturate
  trapping := false
  ignEdge := .rising
  svcEdge := .rising
  plugEdge := .rising
  auxEdge := .rising
  ignEvent := true
  svcEvent := true
  plugEvent := true
  auxEvent := true
  demandTimeout := 50
  confirmTimeout := 500
  defaultZone := .lowEmission
  batteryCapacity := 18000
  socFloor := 200
  chargeMargin := 50
  lookAhead := 15000
  engineBaseTorque := 240
  parkedChargeSpeed := 1300
  limpCap := 300
  firstPath := .primary
  retry1 := .other
  retry2 := .off
  crankLimit := 900
  crankTorque := 80
  restTime := 500
  lightOff := 350
  warmLimit := 90
  warmCap := 60
  minRun := 20
  framePeriod := 10
  preferredLane := .a
  responseLimit := 300
  lossLimit := 3
  alertPolarity := .activeLow
  limpOutPolarity := .activeLow
  chargePower := 120
  parkedChargePower := 80

/-! ## Channel Table and Grant Arbiter -/

/-- A demand channel (R33). The timer is its expiry, or none while STOPPED. Channel 1's value is never INVALID. -/
structure DemandChannel where
  value : Qty
  arrival : TimeTag
  fresh : Bool
  timer : Option TimeTag
  deriving DecidableEq, Repr

/-- Channels 0 and 1 (R33). `lostAt` is the moment of the expiry that set the lost mark (R39). -/
structure Demand where
  traction : DemandChannel
  brake : DemandChannel
  lost : Bool
  lostAt : TimeTag
  deriving DecidableEq, Repr

/-- A set of pools (R34). -/
structure PoolSet where
  battery : Bool
  generation : Bool
  deriving DecidableEq, Repr

/-- The terms of an OFFERED or HELD grant (R34); `order` numbers the offers as they are made (R67). -/
structure Terms where
  power : Nat
  pool : Pool
  offerTime : TimeTag
  order : Nat
  deriving DecidableEq, Repr

/-- The grant state with the fields present in it (R34): the confirm timer's expiry while OFFERED (R59), the confirm
time and the exhaustion expiry while HELD (R60, R65). -/
inductive Grant where
  | none
  | queued
  | offered (terms : Terms) (confirmBy : TimeTag)
  | held (terms : Terms) (confirmTime : TimeTag) (exhaustAt : Option TimeTag)
  deriving DecidableEq, Repr

/-- An auxiliary channel (R34). -/
structure AuxChannel where
  isOpen : Bool
  cls : LoadClass
  pools : PoolSet
  allowance : Nat
  used : Nat
  grant : Grant
  deriving DecidableEq, Repr

/-- An auxiliary channel after full reset (R34). -/
def AuxChannel.closed : AuxChannel where
  isOpen := false
  cls := .essential
  pools := ⟨true, false⟩
  allowance := 0
  used := 0
  grant := .none

/-- An ask of the Grant Queue (R50). -/
structure Ask where
  channel : Nat
  cls : LoadClass
  power : Nat
  arrival : TimeTag
  deriving DecidableEq, Repr

/-- What the Grant Arbiter holds (R50, R51, R56, R57, R71). The pattern is one byte: bit n − 1 is slot n, 1 for DEFERRABLE. -/
structure Arbiter where
  queue : List Ask
  batteryBudget : Nat
  generationBudget : Nat
  mode : ArbiterMode
  pattern : Byte
  pointer : Nat
  overdrawTripped : Bool
  offers : Nat
  deriving DecidableEq, Repr

/-! ## Route Horizon -/

/-- A segment record (R74). -/
structure Segment where
  id : Nat
  length : Nat
  zone : Zone
  grade : Int
  stops : Nat
  lifts : Nat
  floor : Option Nat
  dwell : Option Bool
  deriving DecidableEq, Repr

/-- The consumption table (R89): Wh/km for each grade class, Wh per stop, Wh per lift cycle. -/
structure Consumption where
  m3 : Nat
  m2 : Nat
  m1 : Nat
  g0 : Nat
  p1 : Nat
  p2 : Nat
  p3 : Nat
  stop : Nat
  lift : Nat
  deriving DecidableEq, Repr

/-- The zone context (R97). -/
structure ZoneContext where
  segmentId : Nat
  zone : Zone
  dwell : Bool
  floor : Nat
  chargeAhead : Bool
  target : Option Nat
  short : Bool
  deriving DecidableEq, Repr

/-- The Horizon Store (R72) and the Horizon Tracker (R80, R88, R89, R93, R97). The active zone held and the SHORT flag
are the context's. -/
structure Horizon where
  paged : Bool
  pageA : List Segment
  pageB : List Segment
  single : List Segment
  activeA : Bool
  swapPending : Bool
  distance : Nat
  carry : Nat
  payloadClass : Nat
  consumption : Consumption
  reserve : Nat
  runDistance : Option Nat
  context : ZoneContext
  deriving DecidableEq, Repr

/-! ## Split Solver -/

/-- A set of the six modes of the zone permission table (R103). -/
structure ModeSet where
  ev : Bool
  assist : Bool
  charge : Bool
  engineOnly : Bool
  regen : Bool
  parkedCharge : Bool
  deriving DecidableEq, Repr

/-- The zone permission table (R103). -/
structure ZoneTable where
  openZone : ModeSet
  lowEmission : ModeSet
  zeroEmission : ModeSet
  quiet : ModeSet
  deriving DecidableEq, Repr

/-- A set of conditions (R12). -/
structure Conditions where
  overflow : Bool
  underflow : Bool
  divideCheck : Bool
  invalid : Bool
  deriving DecidableEq, Repr

/-- A hold (R13). -/
structure Hold where
  isSet : Bool
  serial : Word32
  deriving DecidableEq, Repr

/-- The four holds (R13). -/
structure Holds where
  overflow : Hold
  underflow : Hold
  divideCheck : Hold
  invalid : Hold
  deriving DecidableEq, Repr

/-- A split record (R121). -/
structure SplitRecord where
  serial : Word32
  tag : TimeTag
  runState : RunState
  zone : Zone
  mode : SplitMode
  engineWanted : Bool
  clutch : Clutch
  engineTorque : Int
  mgTorque : Int
  tractionAsked : Int
  tractionDelivered : Int
  batteryPower : Int
  batteryBudget : Int
  generationBudget : Int
  conditions : Conditions
  chargeLatch : Bool
  deriving DecidableEq, Repr

/-- The empty record of serial 0 (R121). -/
def SplitRecord.empty : SplitRecord where
  serial := 0#32
  tag := 0#32
  runState := .standby
  zone := .lowEmission
  mode := .ev
  engineWanted := false
  clutch := .opened
  engineTorque := 0
  mgTorque := 0
  tractionAsked := 0
  tractionDelivered := 0
  batteryPower := 0
  batteryBudget := 0
  generationBudget := 0
  conditions := ⟨false, false, false, false⟩
  chargeLatch := false

/-- The snapshot of a solve (R101). -/
structure Snapshot where
  tag : TimeTag
  runState : RunState
  context : ZoneContext
  traction : Qty
  brake : Qty
  svc : Bool
  shaftSpeed : Qty
  motoring : Qty
  generating : Qty
  engineSpeed : Qty
  available : Qty
  soc : Qty
  discharge : Qty
  chargeLimit : Qty
  engine : EngineState
  batterySum : Nat
  generationSum : Nat
  latch : Bool
  table : ZoneTable
  fitMode : FitMode
  trapping : Bool
  warmCap : Nat
  engineBaseTorque : Nat
  chargePower : Nat
  parkedChargePower : Nat
  limpCap : Nat
  deriving DecidableEq, Repr

/-- What the Split Solver holds. `solve` is the snapshot of the solve in flight, none while IDLE (R100);
`ofThisDrive` says whether the current record was published after the last entry to ACTIVE from STANDBY (R157).
The serial counter is the serial of the current record (R122). -/
structure Solver where
  solve : Option Snapshot
  repeatMark : Bool
  record : SplitRecord
  ofThisDrive : Bool
  table : ZoneTable
  latch : Bool
  depletion : Option Nat
  holds : Holds
  deriving DecidableEq, Repr

/-! ## Engine Sequencer -/

/-- What the Engine Sequencer holds (R126); `named` is the path the latest attempt named (R129). -/
structure Engine where
  state : EngineState
  attempt : Nat
  path : Option StartPath
  named : Option StartPath
  bar : Option BarReason
  faultNoted : Bool
  minRun : Option TimeTag
  timer : Option TimeTag
  wanted : Bool
  deriving DecidableEq, Repr

/-! ## Unit Link Controller -/

/-- The settings of a unit (R148). Pattern and mask use the flag bits of the report record. -/
structure UnitSettings where
  enabled : Bool
  expected : Byte
  mask : Byte
  retry1 : Retry1
  retry2 : Retry2
  retryIfStatusSet : Bool
  briefBusy : Bool
  copyTo : Option UnitId
  deriving DecidableEq, Repr

/-- The counters of a unit for one lane (R146). -/
structure LaneCounters where
  attempts : Nat
  taken : Nat
  silent : Nat
  refused : Nat
  echoMismatch : Nat
  cutOff : Nat
  copies : Nat
  deriving DecidableEq, Repr

/-- A unit's record but for its measurements (R146). `measuredAt` goes with the measurements; `takenAt` is the time tag
of the last taken report, brief-busy ones included (R166). -/
structure UnitRecord where
  settings : UnitSettings
  health : Health
  missed : Nat
  flags : Byte
  measuredAt : TimeTag
  takenAt : TimeTag
  statusSet : Byte
  sequence : Byte
  onA : LaneCounters
  onB : LaneCounters
  deriving DecidableEq, Repr

/-- R147. -/
structure MiuMeasurements where
  shaftSpeed : Qty
  torque : Qty
  motoring : Qty
  generating : Qty
  distance : Qty
  temperature : Qty
  deriving DecidableEq, Repr

/-- R147. -/
structure EuMeasurements where
  engineSpeed : Qty
  torque : Qty
  available : Qty
  catalyst : Qty
  clutch : Option Clutch
  deriving DecidableEq, Repr

/-- R147. -/
structure BuMeasurements where
  soc : Qty
  voltage : Qty
  current : Qty
  discharge : Qty
  chargeLimit : Qty
  cellTemperature : Qty
  deriving DecidableEq, Repr

/-- A lane record (R149). -/
structure Lane where
  state : LaneState
  clean : Nat
  restorePending : Bool
  deriving DecidableEq, Repr

/-- What a transaction must remember of one lane (R150, R151): an attempt on it ended silent, it carried an attempt,
it was not clean, it was SUSPECT when the transaction began. -/
structure TxnLane where
  silent : Bool
  used : Bool
  dirty : Bool
  suspect : Bool
  deriving DecidableEq, Repr

/-- Where a transaction stands: its order is on the lane, its report is awaited (R162), its PEER_COPY is on the lane (R168). -/
inductive TxnPhase where
  | sending
  | waiting
  | copying (record : List Byte)
  deriving DecidableEq, Repr

/-- A transaction in progress (R157, R159): the order record with its check value, the attempt and its lane. -/
structure Txn where
  unit : UnitId
  order : List Byte
  attempt : Nat
  lane : LaneId
  phase : TxnPhase
  onA : TxnLane
  onB : TxnLane
  deriving DecidableEq, Repr

/-- What a frame does at present (R155): a PROBE on a lane, with the lanes still to be probed, or a transaction. -/
inductive FrameWork where
  | probing (lane : LaneId) (record : List Byte) (probesLeft : List LaneId)
  | transaction (txn : Txn)
  deriving DecidableEq, Repr

/-- The frame in progress (R155): whether it is a QUIET FRAME, what it does, and the units still to come. -/
structure FrameRun where
  quiet : Bool
  work : FrameWork
  unitsLeft : List UnitId
  deriving DecidableEq, Repr

/-- R154. -/
inductive FrameState where
  | noFrames
  | waiting
  | inFrame (frame : FrameRun)
  deriving DecidableEq, Repr

/-- What the Unit Link Controller holds (R146, R149, R154, R156); `periodRead` is FRAME_PERIOD as last read by the
frame timer (R172). -/
structure Link where
  miu : UnitRecord
  eu : UnitRecord
  bu : UnitRecord
  acu : UnitRecord
  miuMeas : MiuMeasurements
  euMeas : EuMeasurements
  buMeas : BuMeasurements
  acuDraw : Qty
  laneA : Lane
  laneB : Lane
  frame : FrameState
  timer : Option TimeTag
  periodRead : Nat
  overruns : Nat
  deriving DecidableEq, Repr

/-! ## The whole part -/

/-- The state of the part, with the queue of the commands that are waiting, first in first out. -/
structure State where
  pending : List Instr
  now : TimeTag
  resetHeld : Bool
  port : Port
  stack : Stack
  outputs : Outputs
  run : RunControl
  lines : Lines
  items : Items
  demand : Demand
  aux : List AuxChannel
  arbiter : Arbiter
  horizon : Horizon
  solver : Solver
  engine : Engine
  link : Link
  deriving DecidableEq, Repr

/-! ## Full reset -/

/-- A set that holds all 25 event kinds (R173, R186). -/
def allKinds : Word32 := 0x01FFFFFF#32

/-- No limp cause. -/
def LimpCauses.empty : LimpCauses := ⟨false, false, false, false, false⟩

/-- No condition. -/
def Conditions.empty : Conditions := ⟨false, false, false, false⟩

/-- A clear hold (R13). -/
def Hold.clear : Hold := ⟨false, 0#32⟩

/-- An input as sampled at the release of reset (R26). -/
def Input.sampled (level : Bool) : Input := ⟨level, level, 0#32, 0#32⟩

/-- The zone permission table after full reset (R103). -/
def ZoneTable.default : ZoneTable where
  openZone := ⟨true, true, true, true, true, true⟩
  lowEmission := ⟨true, true, true, true, true, false⟩
  zeroEmission := ⟨true, false, false, false, true, false⟩
  quiet := ⟨true, true, false, false, true, false⟩

/-- The consumption table after full reset (R89). -/
def Consumption.default : Consumption := ⟨60, 120, 180, 240, 320, 420, 540, 25, 40⟩

/-- The zone context after full reset (R97). -/
def ZoneContext.default : ZoneContext := ⟨0, .lowEmission, false, 200, false, none, false⟩

def LaneCounters.zero : LaneCounters := ⟨0, 0, 0, 0, 0, 0, 0⟩

/-- The default settings of a unit (R148): READY is flag bit 4, FAULT bit 1, CONTACTOR_CLOSED of the BU bit 5. -/
def UnitSettings.default : UnitId → UnitSettings
  | .miu | .eu => ⟨true, 0x10#8, 0x12#8, .other, .same, false, false, none⟩
  | .bu => ⟨true, 0x30#8, 0x32#8, .other, .same, false, false, none⟩
  | .acu => ⟨false, 0x10#8, 0x12#8, .other, .same, false, false, none⟩

/-- A unit's record after full reset (R146). -/
def UnitRecord.reset (u : UnitId) : UnitRecord where
  settings := UnitSettings.default u
  health := if (UnitSettings.default u).enabled then .joining else .disabled
  missed := 0
  flags := 0#8
  measuredAt := 0#32
  takenAt := 0#32
  statusSet := 0#8
  sequence := 0#8
  onA := .zero
  onB := .zero

def MiuMeasurements.invalid : MiuMeasurements := ⟨none, none, none, none, none, none⟩
def EuMeasurements.invalid : EuMeasurements := ⟨none, none, none, none, none⟩
def BuMeasurements.invalid : BuMeasurements := ⟨none, none, none, none, none, none⟩

/-- Every block in its full-reset state, with the straps and the input levels as sampled (R17, R26, R29, and the reset
sentences of R33, R34, R50, R51, R56, R57, R71, R72, R80, R87 to R90, R96, R97, R100, R103, R105, R121 to R123, R126,
R146, R149, R154, R156, R173, R183, R186, R187). -/
def State.fullReset (straps : Straps) (levels : Levels) (pending : List Instr) : State where
  pending := pending
  now := 0#32
  resetHeld := false
  port :=
    { receiver := .hunt, partialFrame := [], received := [], executing := none, replies := [], notice := none,
      transmitting := none, noticeMask := allKinds }
  stack := { entries := [], overrun := false, alertMask := allKinds }
  outputs := { alert := false, limpOut := false }
  run := { state := .standby, causes := { LimpCauses.empty with service := levels.svc }, lastChange := 0#32 }
  lines :=
    { ign := .sampled levels.ign, svc := .sampled levels.svc, plug := .sampled levels.plug,
      aux := .sampled levels.aux, straps := straps }
  items := .default
  demand :=
    { traction := ⟨none, 0#32, false, none⟩, brake := ⟨some 0, 0#32, false, none⟩, lost := false, lostAt := 0#32 }
  aux := List.replicate Config.auxChannels .closed
  arbiter :=
    { queue := [], batteryBudget := 0, generationBudget := 0, mode := .fixed, pattern := 0xAA#8, pointer := 1,
      overdrawTripped := false, offers := 0 }
  horizon :=
    { paged := true, pageA := [], pageB := [], single := [], activeA := true, swapPending := false, distance := 0,
      carry := 0, payloadClass := 0, consumption := .default, reserve := 0, runDistance := none,
      context := .default }
  solver :=
    { solve := none, repeatMark := false, record := .empty, ofThisDrive := false, table := .default, latch := false,
      depletion := none, holds := ⟨.clear, .clear, .clear, .clear⟩ }
  engine :=
    { state := .off, attempt := 0, path := none, named := none, bar := none, faultNoted := false, minRun := none,
      timer := none, wanted := false }
  link :=
    { miu := .reset .miu, eu := .reset .eu, bu := .reset .bu, acu := .reset .acu, miuMeas := .invalid,
      euMeas := .invalid, buMeas := .invalid, acuDraw := none, laneA := ⟨.good, 0, false⟩,
      laneB := ⟨if straps.lanesSingle then .absent else .good, 0, false⟩, frame := .noFrames, timer := none,
      periodRead := 0, overruns := 0 }

/-- The part right after full reset, with every input deasserted and the straps at BELT NOT_FITTED, LANES DUAL and
RATE 1 Mbit/s (DESIGN CHOICE, log 3: the spec leaves the pins to the board), and no command waiting. -/
def State.reset : State := State.fullReset ⟨false, false, false⟩ ⟨false, false, false, false⟩ []

end Sys2Proof.Machine
end

