-- ==== Sys2Proof/Machine/Operands.lean ====
section
/-! DEFINITION. Operand forms: the bytes and codes of 10_message_and_record_layouts.md. Byte order, quantity codes,
enumeration codes both ways, payload fields, segment records and configuration items. -/

namespace Sys2Proof.Machine

/-! ## Bytes: multi-byte fields are sent most significant byte first -/

def byteOf (n : Nat) : Byte := BitVec.ofNat 8 n

def be16 (w : Word16) : List Byte := [w.extractLsb' 8 8, w.extractLsb' 0 8]

def be32 (w : Word32) : List Byte :=
  [w.extractLsb' 24 8, w.extractLsb' 16 8, w.extractLsb' 8 8, w.extractLsb' 0 8]

def word16 (hi lo : Byte) : Word16 := hi ++ lo

def word32 (b3 b2 b1 b0 : Byte) : Word32 := (b3 ++ b2) ++ (b1 ++ b0)

/-- A detail whose four bytes are named apart, byte 0 the most significant ("The event entry"). -/
def detail4 (b0 b1 b2 b3 : Nat) : Word32 := word32 (byteOf b0) (byteOf b1) (byteOf b2) (byteOf b3)

/-- One-byte field. -/
def u8 (n : Nat) : List Byte := [byteOf n]

/-- Two-byte unsigned field. -/
def u16 (n : Nat) : List Byte := be16 (BitVec.ofNat 16 n)

/-- Four-byte unsigned field. -/
def u32 (n : Nat) : List Byte := be32 (BitVec.ofNat 32 n)

/-- Two-byte signed field. -/
def i16 (i : Int) : List Byte := be16 (BitVec.ofInt 16 i)

/-- A flag: NO/YES, OFF/ON, CLEAR/SET, deasserted/asserted are 0 and 1. -/
def flag (b : Bool) : List Byte := [if b then 1#8 else 0#8]

def boolCode (b : Bool) : Nat := if b then 1 else 0

/-- A torque, power or temperature, or a BU current: signed, INVALID is 0x8000. -/
def signedQty : Qty → List Byte
  | some v => i16 v
  | none => be16 0x8000#16

/-- A speed, SOC, energy, distance or BU voltage: unsigned, INVALID is 0xFFFF. -/
def unsignedQty : Qty → List Byte
  | some v => u16 v.toNat
  | none => be16 0xFFFF#16

/-- A field present only in some states: a presence byte, then its bytes, zeros when absent (R189). -/
def optional (width : Nat) : Option (List Byte) → List Byte
  | some bytes => 1#8 :: bytes
  | none => 0#8 :: List.replicate width 0#8

/-- The byte of a value whose code the layouts chapter does not list (log 8). -/
def unlisted (v : Config.UnlistedValue) : List Byte := [Config.unlistedCode v]

/-- A time tag that may be "none", sent as 0 (R189). -/
def tagOrZero (t : Option TimeTag) : List Byte := be32 (t.getD 0#32)

/-! ## CRC-16 of both lines: polynomial x^16 + x^12 + x^5 + 1, initial value all ones, most significant bit first,
no reflection and no final inversion (R175, R190) -/

def crcShift (crc : Word16) : Word16 :=
  if crc.msb then (crc <<< 1) ^^^ 0x1021#16 else crc <<< 1

def crcShifts : Nat → Word16 → Word16
  | 0, crc => crc
  | n + 1, crc => crcShifts n (crcShift crc)

def crcByte (crc : Word16) (b : Byte) : Word16 := crcShifts 8 (crc ^^^ word16 b 0#8)

def crc16 (bytes : List Byte) : Word16 := bytes.foldl crcByte 0xFFFF#16

/-! ## Payload fields -/

/-- Byte at an offset of a payload, a body or a frame. -/
def at8 (bytes : List Byte) (i : Nat) : Byte := bytes.getD i 0#8

def nat8 (bytes : List Byte) (i : Nat) : Nat := (at8 bytes i).toNat

def int8 (bytes : List Byte) (i : Nat) : Int := (at8 bytes i).toInt

def at16 (bytes : List Byte) (i : Nat) : Word16 := word16 (at8 bytes i) (at8 bytes (i + 1))

def nat16 (bytes : List Byte) (i : Nat) : Nat := (at16 bytes i).toNat

def int16 (bytes : List Byte) (i : Nat) : Int := (at16 bytes i).toInt

def at32 (bytes : List Byte) (i : Nat) : Word32 :=
  word32 (at8 bytes i) (at8 bytes (i + 1)) (at8 bytes (i + 2)) (at8 bytes (i + 3))

/-- A measurement of a signed kind: a code outside the code range, INVALID's among them, is INVALID (R188). -/
def measureSigned (lo hi : Int) (bytes : List Byte) (i : Nat) : Qty :=
  let v := int16 bytes i
  if lo ≤ v ∧ v ≤ hi then some v else none

/-- A measurement of an unsigned kind (R188). -/
def measureUnsigned (hi : Nat) (bytes : List Byte) (i : Nat) : Qty :=
  let v := nat16 bytes i
  if v ≤ hi then some (Int.ofNat v) else none


/-! ## Enumeration codes ("Enumerations and sets") -/

def runStateCode : RunState → Nat
  | .standby => 0 | .active => 1 | .limp => 2 | .winddown => 3

def zoneCode : Zone → Nat
  | .openZone => 0 | .lowEmission => 1 | .zeroEmission => 2 | .quiet => 3

def zoneOf : Nat → Option Zone
  | 0 => some .openZone | 1 => some .lowEmission | 2 => some .zeroEmission | 3 => some .quiet | _ => none

def modeCode : SplitMode → Nat
  | .ev => 0 | .assist => 1 | .charge => 2 | .engineOnly => 3 | .regen => 4 | .parkedCharge => 5 | .limp => 6

def holdCode : HoldName → Nat
  | .overflow => 0 | .underflow => 1 | .divideCheck => 2 | .invalid => 3

def holdOf : Nat → Option HoldName
  | 0 => some .overflow | 1 => some .underflow | 2 => some .divideCheck | 3 => some .invalid | _ => none

def clutchCode : Clutch → Nat
  | .opened => 0 | .slip => 1 | .closed => 2

def clutchOf : Nat → Option Clutch
  | 0 => some .opened | 1 => some .slip | 2 => some .closed | _ => none

def classCode : LoadClass → Nat
  | .essential => 0 | .deferrable => 1

def classOf : Nat → Option LoadClass
  | 0 => some .essential | 1 => some .deferrable | _ => none

def grantCode : Grant → Nat
  | .none => 0 | .queued => 1 | .offered _ _ => 2 | .held _ _ _ => 3

def poolCode : Pool → Nat
  | .battery => 0 | .generation => 1

def reasonCode : RevokeReason → Nat
  | .budget => 0 | .limp => 1 | .winddown => 2

def arbiterModeCode : ArbiterMode → Nat
  | .fixed => 0 | .weighted => 1

def listCode : ListName → Nat
  | .pageA => 0 | .pageB => 1 | .single => 2

def listOf : Nat → Option ListName
  | 0 => some .pageA | 1 => some .pageB | 2 => some .single | _ => none

def swapFormCode : SwapForm → Nat
  | .immediate => 0 | .atBoundary => 1

def swapFormOf : Nat → Option SwapForm
  | 0 => some .immediate | 1 => some .atBoundary | _ => none

def doneReasonCode : DoneReason → Nat
  | .completed => 0 | .skipped => 1

def emptyCauseCode : EmptyCause → Nat
  | .completed => 0 | .cleared => 1 | .organised => 2

def engineCode : EngineState → Nat
  | .off => 0 | .cranking => 1 | .resting => 2 | .warming => 3 | .running => 4 | .holding => 5 | .stopping => 6
  | .barred => 7 | .detached => 8

def engineCauseCode : EngineCause → Nat
  | .wanted => 0 | .notWanted => 1 | .fired => 2 | .startFailed => 3 | .restEnd => 4 | .warmed => 5
  | .warmLimit => 6 | .minRun => 7 | .stopped => 8 | .stopLimit => 9 | .zone => 10 | .winddown => 11
  | .service => 12 | .euFault => 13 | .euLost => 14 | .euRestored => 15 | .rearm => 16

/-- A path that is none is sent as 0xFF (R188). -/
def pathCode : Option StartPath → Nat
  | some .primary => 0 | some .alternate => 1 | none => 0xFF

def failureCode : StartFailure → Nat
  | .crankLimit => 0 | .euFault => 1 | .noPath => 2

def barCode : Option BarReason → Nat
  | none => 0 | some .startFail => 1 | some .stopFail => 2 | some .fault => 3

def retry1Code : Retry1 → Nat
  | .same => 0 | .other => 1

def retry2Code : Retry2 → Nat
  | .same => 0 | .other => 1 | .off => 2

def healthCode : Health → Nat
  | .disabled => 0 | .joining => 1 | .present => 2 | .lost => 3

def laneCode : LaneId → Nat
  | .a => 0 | .b => 1

def laneOf : Nat → Option LaneId
  | 0 => some .a | 1 => some .b | _ => none

def laneStateCode : LaneState → Nat
  | .good => 0 | .suspect => 1 | .failed => 2 | .absent => 3

def laneCauseCode : LaneCause → Nat
  | .echo => 0 | .silent => 1 | .transmitLimit => 2 | .cleanRun => 3 | .probeGood => 4 | .probeBad => 5
  | .cancelled => 6

def lineCode : Line → Nat
  | .ign => 0 | .svc => 1 | .plug => 2 | .aux => 3

def edgeCode : EdgeSelect → Nat
  | .rising => 0 | .falling => 1 | .both => 2

def polarityCode : Polarity → Nat
  | .activeLow => 0 | .activeHigh => 1

def fitCode : FitMode → Nat
  | .saturate => 0 | .proportional => 1

def miuModeCode : MiuMode → Nat
  | .drive => 0 | .regen => 1 | .crank => 2 | .parkCharge => 3 | .standby => 4

def euRequestCode : EuRequest → Nat
  | .stop => 0 | .crank => 1 | .run => 2

/-- Link addresses (R146). -/
def unitCode : UnitId → Nat
  | .miu => 1 | .eu => 2 | .bu => 3 | .acu => 4

def unitOf : Nat → Option UnitId
  | 1 => some .miu | 2 => some .eu | 3 => some .bu | 4 => some .acu | _ => none

def resultCode : ResultCode → Nat
  | .done => 0 | .accepted => 1 | .state => 2 | .range => 3 | .order => 4 | .full => 5 | .absent => 6
  | .duplicate => 7 | .late => 8 | .spent => 9 | .busy => 10 | .frame => 11 | .unknown => 12

def eventCode : EventKind → Nat
  | .runState => 1 | .lineEdge => 2 | .demandLost => 3 | .demandRestored => 4 | .grantOffered => 5
  | .grantExpired => 6 | .grantRevoked => 7 | .grantExhausted => 8 | .auxOverdraw => 9 | .segmentDone => 10
  | .zoneEntry => 11 | .swapDone => 12 | .horizonEmpty => 13 | .reserveShort => 14 | .holdSet => 15
  | .zoneDepleted => 16 | .engineState => 17 | .startFailed => 18 | .engineBarred => 19 | .unitLost => 20
  | .unitRestored => 21 | .unitStatusSet => 22 | .laneState => 23 | .frameOverrun => 24 | .stackHalf => 25

/-- Event kind sets use bit (code − 1) ("The event entry"). -/
def inMask (mask : Word32) (k : EventKind) : Bool := mask.getLsbD (eventCode k - 1)

/-! ## Sets -/

/-- Limp cause set: bit 0 MIU_LOST, 1 BU_LOST, 2 LINK_DOWN, 3 SERVICE, 4 DEMAND_LOST. -/
def causesCode (c : LimpCauses) : Nat :=
  boolCode c.miuLost + 2 * boolCode c.buLost + 4 * boolCode c.linkDown + 8 * boolCode c.service +
    16 * boolCode c.demandLost

/-- Conditions: bit 0 OVERFLOW, 1 UNDERFLOW, 2 DIVIDE_CHECK, 3 INVALID. -/
def conditionsCode (c : Conditions) : Nat :=
  boolCode c.overflow + 2 * boolCode c.underflow + 4 * boolCode c.divideCheck + 8 * boolCode c.invalid

def poolsCode (p : PoolSet) : Nat := boolCode p.battery + 2 * boolCode p.generation

def poolsOf (b : Byte) : PoolSet := ⟨b.getLsbD 0, b.getLsbD 1⟩

/-- Mode sets: bit 0 EV, 1 ASSIST, 2 CHARGE, 3 ENGINE_ONLY, 4 REGEN, 5 PARKED_CHARGE. -/
def modesCode (m : ModeSet) : Nat :=
  boolCode m.ev + 2 * boolCode m.assist + 4 * boolCode m.charge + 8 * boolCode m.engineOnly +
    16 * boolCode m.regen + 32 * boolCode m.parkedCharge

def modesOf (b : Byte) : ModeSet :=
  ⟨b.getLsbD 0, b.getLsbD 1, b.getLsbD 2, b.getLsbD 3, b.getLsbD 4, b.getLsbD 5⟩

/-! ## The event entry, the segment record and the split record as bytes -/

/-- Eleven bytes: time tag, kind, subject, detail. -/
def entryBytes (e : Entry) : List Byte :=
  be32 e.tag ++ u8 (eventCode e.kind) ++ be16 e.subject ++ be32 e.detail

/-- Twelve bytes; a field whose presence bit is clear is sent as 0 (R188). -/
def segmentBytes (g : Segment) : List Byte :=
  u16 g.id ++ u16 g.length ++ u8 (zoneCode g.zone) ++ [BitVec.ofInt 8 g.grade] ++ u8 g.stops ++ u8 g.lifts ++
    u8 (boolCode g.floor.isSome + 2 * boolCode g.dwell.isSome) ++ u16 (g.floor.getD 0) ++ flag (g.dwell.getD false)

/-- The segment record of a SEGMENT_ADD, or none when a field is outside its range in R74 or a code or presence bit is
not listed (R188). The content of a field whose presence bit is clear is ignored. -/
def segmentOf (p : List Byte) : Option Segment :=
  let presence := at8 p 8
  let floor := if presence.getLsbD 0 then some (nat16 p 9) else none
  let dwell := nat8 p 11
  match zoneOf (nat8 p 4) with
  | none => none
  | some zone =>
    if 1 ≤ nat16 p 0 ∧ 10 ≤ nat16 p 2 ∧ nat16 p 2 ≤ 20000 ∧ -3 ≤ int8 p 5 ∧ int8 p 5 ≤ 3 ∧ nat8 p 6 ≤ 60 ∧
        nat8 p 7 ≤ 60 ∧ presence.toNat < 4 ∧ (∀ f ∈ floor, 50 ≤ f ∧ f ≤ 900) ∧
        (presence.getLsbD 1 = true → dwell ≤ 1) then
      some ⟨nat16 p 0, nat16 p 2, zone, int8 p 5, nat8 p 6, nat8 p 7, floor,
        if presence.getLsbD 1 then some (decide (dwell = 1)) else none⟩
    else none

/-- Twenty-nine bytes ("The split record as returned"). -/
def recordBytes (r : SplitRecord) : List Byte :=
  be32 r.serial ++ be32 r.tag ++ u8 (runStateCode r.runState) ++ u8 (zoneCode r.zone) ++ u8 (modeCode r.mode) ++
    flag r.engineWanted ++ u8 (clutchCode r.clutch) ++ i16 r.engineTorque ++ i16 r.mgTorque ++ i16 r.tractionAsked ++
    i16 r.tractionDelivered ++ i16 r.batteryPower ++ i16 r.batteryBudget ++ i16 r.generationBudget ++
    u8 (conditionsCode r.conditions) ++ flag r.chargeLatch

/-- A frame as the bytes on the host line: sync, length, kind, tag, payload, CRC high byte first (R189). -/
def Frame.wireBytes (f : Frame) : List Byte :=
  let covered := byteOf f.payload.length :: f.kind :: f.tag :: f.payload
  Config.syncByte :: (covered ++ be16 (crc16 covered))

/-- A record on a lane: head, body and check value (R190). -/
def laneRecord (address type : Nat) (sequence : Byte) (body : List Byte) : List Byte :=
  let covered := byteOf address :: byteOf type :: sequence :: byteOf body.length :: body
  covered ++ be16 (crc16 covered)

/-- The check value at the end of a record (R190). -/
def checkValue (record : List Byte) : Word16 := at16 record (record.length - 2)

/-! ## Configuration items ("Configuration items", R31, R32) -/

/-- Item codes 0x01 to 0x26. -/
def itemOf : Nat → Option Item
  | 0x01 => some .fitMode | 0x02 => some .trapping | 0x03 => some .ignEdge | 0x04 => some .svcEdge
  | 0x05 => some .plugEdge | 0x06 => some .auxEdge | 0x07 => some .ignEvent | 0x08 => some .svcEvent
  | 0x09 => some .plugEvent | 0x0A => some .auxEvent | 0x0B => some .demandTimeout | 0x0C => some .confirmTimeout
  | 0x0D => some .defaultZone | 0x0E => some .batteryCapacity | 0x0F => some .socFloor | 0x10 => some .chargeMargin
  | 0x11 => some .lookAhead | 0x12 => some .engineBaseTorque | 0x13 => some .parkedChargeSpeed
  | 0x14 => some .limpCap | 0x15 => some .firstPath | 0x16 => some .retry1 | 0x17 => some .retry2
  | 0x18 => some .crankLimit | 0x19 => some .crankTorque | 0x1A => some .restTime | 0x1B => some .lightOff
  | 0x1C => some .warmLimit | 0x1D => some .warmCap | 0x1E => some .minRun | 0x1F => some .framePeriod
  | 0x20 => some .preferredLane | 0x21 => some .responseLimit | 0x22 => some .lossLimit | 0x23 => some .alertPolarity
  | 0x24 => some .limpOutPolarity | 0x25 => some .chargePower | 0x26 => some .parkedChargePower
  | _ => none

/-- The class of an item: true for STANDBY-ONLY, false for LIVE. -/
def itemStandbyOnly : Item → Bool
  | .demandTimeout | .confirmTimeout | .defaultZone | .batteryCapacity | .limpCap | .firstPath | .retry1 | .retry2
  | .crankLimit | .crankTorque | .restTime | .responseLimit | .lossLimit => true
  | .fitMode | .trapping | .ignEdge | .svcEdge | .plugEdge | .auxEdge | .ignEvent | .svcEvent | .plugEvent
  | .auxEvent | .socFloor | .chargeMargin | .lookAhead | .engineBaseTorque | .parkedChargeSpeed | .lightOff
  | .warmLimit | .warmCap | .minRun | .framePeriod | .preferredLane | .alertPolarity | .limpOutPolarity
  | .chargePower | .parkedChargePower => false

/-- Lowest and highest value of an item, in the unit of its code. -/
def itemBounds : Item → Int × Int
  | .fitMode | .trapping | .ignEvent | .svcEvent | .plugEvent | .auxEvent | .firstPath | .retry1 | .preferredLane
  | .alertPolarity | .limpOutPolarity => (0, 1)
  | .ignEdge | .svcEdge | .plugEdge | .auxEdge | .retry2 => (0, 2)
  | .demandTimeout => (10, 500) | .confirmTimeout => (100, 5000) | .defaultZone => (0, 3)
  | .batteryCapacity => (5000, 40000) | .socFloor => (50, 900) | .chargeMargin => (0, 200)
  | .lookAhead => (1000, 50000) | .engineBaseTorque => (0, 800) | .parkedChargeSpeed => (900, 2500)
  | .limpCap => (0, 800) | .crankLimit => (300, 2000) | .crankTorque => (20, 150) | .restTime => (200, 2000)
  | .lightOff => (250, 500) | .warmLimit => (10, 300) | .warmCap => (0, 220) | .minRun => (0, 120)
  | .framePeriod => (5, 40) | .responseLimit => (100, 1000) | .lossLimit => (1, 8) | .chargePower => (0, 300)
  | .parkedChargePower => (0, 300)

/-- A value in the item's range; FRAME_PERIOD is 5, 10, 20 or 40 ms (R153). -/
def itemInRange (i : Item) (v : Int) : Bool :=
  decide ((itemBounds i).1 ≤ v ∧ v ≤ (itemBounds i).2 ∧
    (i = .framePeriod → v = 5 ∨ v = 10 ∨ v = 20 ∨ v = 40))

/-- The value an item holds, as its code. -/
def itemGet (t : Items) : Item → Nat
  | .fitMode => fitCode t.fitMode
  | .trapping => boolCode t.trapping
  | .ignEdge => edgeCode t.ignEdge
  | .svcEdge => edgeCode t.svcEdge
  | .plugEdge => edgeCode t.plugEdge
  | .auxEdge => edgeCode t.auxEdge
  | .ignEvent => boolCode t.ignEvent
  | .svcEvent => boolCode t.svcEvent
  | .plugEvent => boolCode t.plugEvent
  | .auxEvent => boolCode t.auxEvent
  | .demandTimeout => t.demandTimeout
  | .confirmTimeout => t.confirmTimeout
  | .defaultZone => zoneCode t.defaultZone
  | .batteryCapacity => t.batteryCapacity
  | .socFloor => t.socFloor
  | .chargeMargin => t.chargeMargin
  | .lookAhead => t.lookAhead
  | .engineBaseTorque => t.engineBaseTorque
  | .parkedChargeSpeed => t.parkedChargeSpeed
  | .limpCap => t.limpCap
  | .firstPath => pathCode (some t.firstPath)
  | .retry1 => retry1Code t.retry1
  | .retry2 => retry2Code t.retry2
  | .crankLimit => t.crankLimit
  | .crankTorque => t.crankTorque
  | .restTime => t.restTime
  | .lightOff => t.lightOff
  | .warmLimit => t.warmLimit
  | .warmCap => t.warmCap
  | .minRun => t.minRun
  | .framePeriod => t.framePeriod
  | .preferredLane => laneCode t.preferredLane
  | .responseLimit => t.responseLimit
  | .lossLimit => t.lossLimit
  | .alertPolarity => polarityCode t.alertPolarity
  | .limpOutPolarity => polarityCode t.limpOutPolarity
  | .chargePower => t.chargePower
  | .parkedChargePower => t.parkedChargePower

def edgeOf (n : Nat) : EdgeSelect := if n = 0 then .rising else if n = 1 then .falling else .both

def retry1Of (n : Nat) : Retry1 := if n = 0 then .same else .other

def retry2Of (n : Nat) : Retry2 := if n = 0 then .same else if n = 1 then .other else .off

/-- The items after one of them takes a value of its range, given as its code. -/
def itemSet (t : Items) (i : Item) (v : Nat) : Items :=
  match i with
  | .fitMode => { t with fitMode := if v = 0 then .saturate else .proportional }
  | .trapping => { t with trapping := v == 1 }
  | .ignEdge => { t with ignEdge := edgeOf v }
  | .svcEdge => { t with svcEdge := edgeOf v }
  | .plugEdge => { t with plugEdge := edgeOf v }
  | .auxEdge => { t with auxEdge := edgeOf v }
  | .ignEvent => { t with ignEvent := v == 1 }
  | .svcEvent => { t with svcEvent := v == 1 }
  | .plugEvent => { t with plugEvent := v == 1 }
  | .auxEvent => { t with auxEvent := v == 1 }
  | .demandTimeout => { t with demandTimeout := v }
  | .confirmTimeout => { t with confirmTimeout := v }
  | .defaultZone => { t with defaultZone := (zoneOf v).getD .quiet }
  | .batteryCapacity => { t with batteryCapacity := v }
  | .socFloor => { t with socFloor := v }
  | .chargeMargin => { t with chargeMargin := v }
  | .lookAhead => { t with lookAhead := v }
  | .engineBaseTorque => { t with engineBaseTorque := v }
  | .parkedChargeSpeed => { t with parkedChargeSpeed := v }
  | .limpCap => { t with limpCap := v }
  | .firstPath => { t with firstPath := if v = 0 then .primary else .alternate }
  | .retry1 => { t with retry1 := retry1Of v }
  | .retry2 => { t with retry2 := retry2Of v }
  | .crankLimit => { t with crankLimit := v }
  | .crankTorque => { t with crankTorque := v }
  | .restTime => { t with restTime := v }
  | .lightOff => { t with lightOff := v }
  | .warmLimit => { t with warmLimit := v }
  | .warmCap => { t with warmCap := v }
  | .minRun => { t with minRun := v }
  | .framePeriod => { t with framePeriod := v }
  | .preferredLane => { t with preferredLane := if v = 0 then .a else .b }
  | .responseLimit => { t with responseLimit := v }
  | .lossLimit => { t with lossLimit := v }
  | .alertPolarity => { t with alertPolarity := if v = 0 then .activeLow else .activeHigh }
  | .limpOutPolarity => { t with limpOutPolarity := if v = 0 then .activeLow else .activeHigh }
  | .chargePower => { t with chargePower := v }
  | .parkedChargePower => { t with parkedChargePower := v }

/-- The Solver items, whose change is a solve trigger (R99, R120). -/
def solverItem : Item → Bool
  | .fitMode | .trapping | .warmCap | .engineBaseTorque | .chargePower | .parkedChargePower | .parkedChargeSpeed
  | .limpCap => true
  | .ignEdge | .svcEdge | .plugEdge | .auxEdge | .ignEvent | .svcEvent | .plugEvent | .auxEvent | .demandTimeout
  | .confirmTimeout | .defaultZone | .batteryCapacity | .socFloor | .chargeMargin | .lookAhead | .firstPath | .retry1
  | .retry2 | .crankLimit | .crankTorque | .restTime | .lightOff | .warmLimit | .minRun | .framePeriod | .preferredLane
  | .responseLimit | .lossLimit | .alertPolarity | .limpOutPolarity => false

/-- The Tracker's settings, whose change is an act of the Tracker (R90). -/
def trackerItem : Item → Bool
  | .defaultZone | .batteryCapacity | .socFloor | .chargeMargin | .lookAhead => true
  | .fitMode | .trapping | .warmCap | .engineBaseTorque | .chargePower | .parkedChargePower | .parkedChargeSpeed
  | .limpCap | .ignEdge | .svcEdge | .plugEdge | .auxEdge | .ignEvent | .svcEvent | .plugEvent | .auxEvent
  | .demandTimeout | .confirmTimeout | .firstPath | .retry1 | .retry2 | .crankLimit | .crankTorque | .restTime
  | .lightOff | .warmLimit | .minRun | .framePeriod | .preferredLane | .responseLimit | .lossLimit | .alertPolarity
  | .limpOutPolarity => false

end Sys2Proof.Machine
end

