-- ==== Sys2Proof/Machine/Flags.lean ====
section
/-! DEFINITION. Exact values, rounding, conditions and the named computations of 01_quantities_conditions_and_holds.md
(R2 to R12). Torques are in steps of 0.5 N·m, powers in steps of 0.1 kW. -/

namespace Sys2Proof.Machine

/-! ## Exact values and rounding (R3, R4) -/

/-- An exact value num / den in steps of its kind, den above 0: no rounding before the end of a computation (R3). -/
structure Exact where
  num : Int
  den : Nat
  deriving DecidableEq, Repr

def Exact.ofInt (i : Int) : Exact := ⟨i, 1⟩

/-- Comparison of two exact values by cross multiplication. -/
def Exact.le (a b : Exact) : Bool := decide (a.num * Int.ofNat b.den ≤ b.num * Int.ofNat a.den)

def Exact.min (a b : Exact) : Exact := if a.le b then a else b

def Exact.neg (a : Exact) : Exact := ⟨-a.num, a.den⟩

/-- num / den to the nearest whole number, halves upward, for magnitudes (R3). -/
def roundNat (num den : Nat) : Nat := (2 * num + den) / (2 * den)

/-- R3: to the nearest step, halves away from zero. -/
def Exact.round (a : Exact) : Int :=
  if a.num < 0 then -Int.ofNat (roundNat a.num.natAbs a.den) else Int.ofNat (roundNat a.num.natAbs a.den)

/-- R4: torque in 0.5 N·m at n rpm as power in 0.1 kW, exactly: (T / 2) × n / 9549 × 10. -/
def powerOf (torque : Int) (speed : Int) : Exact := ⟨torque * speed * 5, 9549⟩

/-- R4: power in 0.1 kW at n rpm as torque in 0.5 N·m, exactly: (P / 10) × 9549 / n × 2, for n of at least 300 rpm. -/
def torqueOf (power : Int) (speed : Int) : Exact := ⟨power * 9549, 5 * speed.toNat⟩

/-! ## Comparisons (R2): not met when an operand is INVALID -/

def qtyLt (a : Qty) (b : Int) : Bool :=
  match a with
  | some v => decide (v < b)
  | none => false

def qtyGe (a : Qty) (b : Int) : Bool :=
  match a with
  | some v => decide (b ≤ v)
  | none => false

def qtyLe (a : Qty) (b : Int) : Bool :=
  match a with
  | some v => decide (v ≤ b)
  | none => false

def qtyGt (a : Qty) (b : Int) : Bool :=
  match a with
  | some v => decide (b < v)
  | none => false

/-! ## Conditions -/

def Conditions.union (a b : Conditions) : Conditions :=
  ⟨a.overflow || b.overflow, a.underflow || b.underflow, a.divideCheck || b.divideCheck, a.invalid || b.invalid⟩

/-- The result of one named computation with its condition set (R5). -/
structure Computed where
  value : Int
  conditions : Conditions
  deriving DecidableEq, Repr

/-- A computation that the split mode does not use: 0 and no condition (R5). -/
def Computed.notPerformed : Computed := ⟨0, .empty⟩

/-- R6: an INVALID operand gives 0 with INVALID and UNDERFLOW. -/
def Computed.invalidOperand : Computed := ⟨0, ⟨false, true, false, true⟩⟩

/-- R8: the rounded result against its bounds. `overflowed` says whether R7 has raised OVERFLOW already. Where a negative
limit puts the lower bound above the upper one, the upper one is tested first (DESIGN CHOICE, log 12). -/
def rangeCheck (rounded lo hi : Int) (overflowed : Bool) : Computed :=
  if hi < rounded then ⟨hi, { Conditions.empty with overflow := true }⟩
  else if rounded < lo then ⟨lo, { Conditions.empty with underflow := !overflowed }⟩
  else ⟨rounded, .empty⟩

/-- One named computation with valid operands: R7 for a conversion below 300 rpm (`divide`), then R3 and R8. -/
def compute (exact : Exact) (lo hi : Int) (divide trapping : Bool) : Computed :=
  let overflowed := divide && !trapping
  let checked := rangeCheck exact.round lo hi overflowed
  ⟨checked.value, checked.conditions.union ⟨overflowed, false, divide, false⟩⟩

/-- The limits of the torque and power kinds, in steps (00_scope.md, "Conventions of quantities"). -/
def kindMax : Int := 2000

/-- R8: a bound outside the range of the kind is the kind's limit. -/
def clampToKind (b : Int) : Int := if kindMax < b then kindMax else if b < -kindMax then -kindMax else b

def upperBound (b : Int) : Int := clampToKind b

def lowerBound (b : Int) : Int := clampToKind b

/-- R5, R8: the upper bound of ENGINE_SHARE, whose kind is non-negative: a bound below 0 is the kind's limit 0. -/
def upperShare (b : Int) : Int := if b < 0 then 0 else clampToKind b

/-- A power-to-torque conversion inside a computation: its exact value, and whether it meets a speed below 300 rpm (R7). -/
def convertTorque (power speed : Int) : Exact × Bool :=
  if speed < Config.conversionFloor then (.ofInt 0, true) else (torqueOf power speed, false)

/-! ## The named computations (R5), each from its operands -/

/-- TRACTION_TAKEN (R109): the traction operand, capped at LIMP_CAP where `capped`. -/
def tractionTaken (traction : Qty) (capped : Bool) (limpCap : Nat) : Computed :=
  match traction with
  | none => .invalidOperand
  | some t => compute (.ofInt (if capped ∧ Int.ofNat limpCap < t then Int.ofNat limpCap else t)) 0 kindMax false false

/-- BRAKE_TAKEN (R109). -/
def brakeTaken (brake : Qty) : Computed :=
  match brake with
  | none => .invalidOperand
  | some b => compute (.ofInt b) 0 kindMax false false

/-- CHARGE_TORQUE at shaft speed, and PARKED_CHARGE_TORQUE at engine speed (R113). -/
def chargeTorque (power : Nat) (speed : Qty) (trapping : Bool) : Computed :=
  match speed with
  | none => .invalidOperand
  | some n =>
    let c := convertTorque (Int.ofNat power) n
    compute c.1 0 kindMax c.2 trapping

/-- REGEN_TORQUE (R111): the negative of the least of brake taken, generating limit and converted charge limit. -/
def regenTorque (brake : Int) (generating chargeLimit shaftSpeed : Qty) (trapping : Bool) : Computed :=
  match generating, chargeLimit, shaftSpeed with
  | some g, some l, some n =>
    let c := convertTorque l n
    compute (((Exact.ofInt brake).min (.ofInt g)).min c.1).neg (lowerBound (-g)) 0 c.2 trapping
  | _, _, _ => .invalidOperand

/-- The ratio of a wanted share outside its bounds: the bound it crosses divided by the share (R11). -/
def shareRatio (wanted lo hi : Int) : Option Exact :=
  if hi < wanted ∧ wanted ≠ 0 then some (if 0 < wanted then ⟨hi, wanted.natAbs⟩ else ⟨-hi, wanted.natAbs⟩)
  else if wanted < lo ∧ wanted ≠ 0 then some (if 0 < wanted then ⟨lo, wanted.natAbs⟩ else ⟨-lo, wanted.natAbs⟩)
  else none

/-- The smaller of two ratios, where there are any (R11). -/
def smallerRatio : Option Exact → Option Exact → Option Exact
  | some a, some b => some (a.min b)
  | some a, none => some a
  | none, b => b

/-- A share scaled by the fit factor k and checked (R11). The share that gave the smallest ratio lands on its bound and
raises the condition of the bound it crossed. With OVERFLOW raised, UNDERFLOW is not (R8): negative limits that put the lower
bound above the upper one could raise both, the share then at the bound that the check of its scaled result leaves it at
(DESIGN CHOICE, log 12). -/
def fitShare (wanted lo hi : Int) (k : Option Exact) : Computed :=
  match k with
  | none => compute (.ofInt wanted) lo hi false false
  | some k =>
    let scaled := compute ⟨wanted * k.num, k.den⟩ lo hi false false
    let lands := match shareRatio wanted lo hi with
      | some r => r.le k
      | none => false
    let overflow := scaled.conditions.overflow || (lands && decide (hi < wanted))
    let underflow := scaled.conditions.underflow || (lands && decide (wanted < lo))
    ⟨scaled.value, ⟨overflow, !overflow && underflow, false, false⟩⟩

/-- ENGINE_SHARE on its own or with SATURATE: R6 and R8 for the wanted share (R10, R112). -/
def engineShare (wanted : Int) (available : Qty) : Computed :=
  match available with
  | none => .invalidOperand
  | some hi => compute (.ofInt wanted) 0 (upperShare hi) false false

/-- MG_SHARE on its own or with SATURATE (R10, R111). -/
def mgShare (wanted : Int) (motoring generating : Qty) : Computed :=
  match motoring, generating with
  | some m, some g => compute (.ofInt wanted) (lowerBound (-g)) (upperBound m) false false
  | _, _ => .invalidOperand

/-- ENGINE_SHARE and MG_SHARE together, with the fit of the snapshot's FIT_MODE (R10, R11, R115). -/
def fitShares (fit : FitMode) (wantedEngine wantedMg : Int) (available motoring generating : Qty) :
    Computed × Computed :=
  match fit with
  | .saturate => (engineShare wantedEngine available, mgShare wantedMg motoring generating)
  | .proportional =>
    let engineRatio := match available with
      | some hi => shareRatio wantedEngine 0 (upperShare hi)
      | none => none
    let mgRatio := match motoring, generating with
      | some m, some g => shareRatio wantedMg (lowerBound (-g)) (upperBound m)
      | _, _ => none
    let k := smallerRatio engineRatio mgRatio
    (match available with
      | some hi => fitShare wantedEngine 0 (upperShare hi) k
      | none => .invalidOperand,
     match motoring, generating with
      | some m, some g => fitShare wantedMg (lowerBound (-g)) (upperBound m) k
      | _, _ => .invalidOperand)

/-- TRACTION_DELIVERED (R115). -/
def tractionDelivered (engine mg : Int) : Computed := compute (.ofInt (engine + mg)) (-kindMax) kindMax false false

/-- MG_ELECTRICAL_POWER (R117). -/
def mgPower (mg : Int) (shaftSpeed : Qty) : Computed :=
  match shaftSpeed with
  | none => .invalidOperand
  | some n => compute (powerOf mg n) (-kindMax) kindMax false false

/-- EXPECTED_BATTERY_POWER (R117). -/
def expectedBatteryPower (mgElectrical : Int) (batterySum : Nat) (discharge chargeLimit : Qty) : Computed :=
  match discharge, chargeLimit with
  | some d, some l =>
    compute (.ofInt (mgElectrical + Int.ofNat batterySum)) (lowerBound (-l)) (upperBound d) false false
  | _, _ => .invalidOperand

/-- BATTERY_BUDGET (R118). R6 is applied before the formula, so an INVALID discharge limit gives its conditions with SVC
asserted too (DEDUCED, log 11). -/
def batteryBudget (svc : Bool) (mgElectrical : Int) (discharge : Qty) : Computed :=
  match discharge with
  | none => .invalidOperand
  | some d =>
    let left := d - (if 0 < mgElectrical then mgElectrical else 0)
    compute (.ofInt (if svc ∨ left < 0 then 0 else left)) 0 kindMax false false

/-- GENERATION_BUDGET where it is performed (R119). -/
def generationBudget (engineTorque : Int) (available engineSpeed : Qty) : Computed :=
  match available, engineSpeed with
  | some a, some n => compute (powerOf (a - engineTorque) n) 0 kindMax false false
  | _, _ => .invalidOperand

end Sys2Proof.Machine
end

