-- ==== Sys2Proof/WellFormed.lean ====
section
/-! DEFINITION. Which commands a sender can send at all: operands that the lines and timers can carry. The meanings
answer for every command, well-formed or not (an ill-formed one finds no cause in the state and changes nothing,
log 1); this check is for the senders. -/

namespace Sys2Proof

/-- A request's payload is one that a host frame can carry (R174). -/
def payloadFits (payload : List Byte) : Bool := decide (payload.length ≤ Config.maxPayload)

/-- The defined request kinds are 0x01 to 0x26 (10_message_and_record_layouts.md, "Request kinds and payloads"). -/
def kindDefined (kind : Byte) : Bool := decide (1 ≤ kind.toNat ∧ kind.toNat ≤ 0x26)

/-- The auxiliary channels are 2 to 11 (R34). -/
def auxIndex (channel : Nat) : Bool := decide (2 ≤ channel ∧ channel ≤ 11)

/-- A record on a lane has at least its four-byte head, and its body length is one byte (R190). -/
def recordFits (record : List Byte) : Bool := decide (4 ≤ record.length ∧ record.length ≤ 4 + 255 + 2)

/-- A command whose operands some sender can send. -/
def Instr.wellFormed : Instr → Bool
  | .fullReset _ _ => true
  | .holdsTest _ p | .holdsClear _ p | .identify _ p | .run _ p | .halt _ p | .limpClear _ p | .runRead _ p
  | .configSet _ p | .configGet _ p | .linesRead _ p | .channelOpen _ p | .channelClose _ p | .channelRead _ p
  | .demand _ p | .grantAsk _ p | .grantConfirm _ p | .grantRelease _ p | .grantWithdraw _ p | .pacingClear _ p
  | .arbiterSet _ p | .planOrganise _ p | .segmentAdd _ p | .pageClear _ p | .pageSwap _ p | .positionFix _ p
  | .horizonRead _ p | .payloadSet _ p | .consumptionSet _ p | .splitRead _ p | .zoneTableSet _ p
  | .engineRead _ p | .engineRearm _ p | .unitSet _ p | .unitRead _ p | .laneRestore _ p | .eventsRead _ p
  | .noticeMaskSet _ p | .alertMaskSet _ p => payloadFits p
  | .undefinedKind k _ p => !kindDefined k && payloadFits p
  | .confirmTimerExpiry ch | .exhaustionExpiry ch => auxIndex ch
  | .reportReceived r => recordFits r
  | .hostFrameComplete _ | .frameGap | .receiverHuntResume | .hostLineBreak | .transmissionStart
  | .inputRawChange _ _ | .debounceExpiry _ | .tractionDemandTimeout | .brakeDemandTimeout | .solveCompletion
  | .crankLimitExpiry | .restExpiry | .warmLimitExpiry | .minRunExpiry | .stopLimitExpiry | .frameTimerExpiry
  | .linkTransmissionEnd _ _ | .transmitLimitCutoff _ | .reportWaitExpiry | .hostByteTaken _ | .resetNAsserted => true

end Sys2Proof
end

