-- ==== Sys2Proof/Machine/Ops.lean ====
section
/-! DEFINITION. Operations that every block shares: time, the Event Stack's push, the solve trigger, the auxiliary
channels' sums, and the execution of a request with its reply. -/

namespace Sys2Proof.Machine

/-- What a meaning answers. -/
abbrev Effect : Type := Host.Outcome State Fault Refusal

/-! ## Time (00_scope.md, "Time tags") -/

/-- The time tag that lies a number of milliseconds after another one, across the wrap. -/
def afterMs (now : TimeTag) (ms : Nat) : TimeTag := now + BitVec.ofNat 32 ms

/-- The milliseconds from one time tag to a later one, across the wrap. -/
def elapsed (since now : TimeTag) : Nat := (now - since).toNat

/-- A time tag is below an expiry while the time still to pass is more than 0 ms and less than 2147483648 ms. -/
def below (now expiry : TimeTag) : Bool :=
  decide (0 < (expiry - now).toNat ∧ (expiry - now).toNat < 2147483648)

/-- A timer's expiry has come: the timer runs and the time tag is no longer below its expiry (log 2). -/
def expired (now : TimeTag) : Option TimeTag → Bool
  | some expiry => !below now expiry
  | none => false

/-! ## The Event Stack (R183, R184), the notice slot (R180) and ALERT (R186) -/

/-- R186: an unread entry of a kind in the alert mask is held. -/
def alertDue (k : Stack) : Bool := k.entries.any fun e => inMask k.alertMask e.kind

/-- ALERT judged afresh (R186). -/
def judgeAlert (s : State) : State := { s with outputs := { s.outputs with alert := alertDue s.stack } }

/-- One entry joins the stack; at 128 unread the oldest is overwritten and OVERRUN set (R183). -/
def stackAdd (e : Entry) (k : Stack) : Stack :=
  if k.entries.length < Config.stackCapacity then { k with entries := k.entries ++ [e] }
  else { k with entries := k.entries.tail ++ [e], overrun := true }

/-- The notice frame of an entry (R179, R189). -/
def noticeFrame (e : Entry) : Frame := ⟨0xFF#8, 0#8, entryBytes e⟩

/-- A free line takes the notice held, with no reply waiting, before another notice or a reply joins (R179): the first of
several entries pushed in one act while the line is free is sent (R180; log 5). -/
def lineTakes (p : Port) : Port :=
  match p.transmitting, p.replies, p.notice with
  | none, [], some e => { p with notice := none, transmitting := some (noticeFrame e) }
  | _, _, _ => p

/-- The notice of an entry takes the slot, over the notice held there (R180). -/
def takeNotice (e : Entry) (p : Port) : Port := { lineTakes p with notice := some e }

/-- A push of one entry, with the notice and ALERT judged after it, STACK_HALF apart (R180, R183, R186). -/
def pushEntry (e : Entry) (s : State) : State :=
  judgeAlert { s with
    stack := stackAdd e s.stack
    port := if inMask s.port.noticeMask e.kind then takeNotice e s.port else s.port }

/-- The STACK_HALF entry: the time tag of the oldest unread entry as its detail (R184). -/
def halfEntry (s : State) : Entry :=
  ⟨s.now, .stackHalf, 0#16, (s.stack.entries.head?.map (·.tag)).getD 0#32⟩

/-- A push of an entry with a time tag (R183), and STACK_HALF when it takes the unread count from 63 to 64 (R184). -/
def pushAt (tag : TimeTag) (kind : EventKind) (subject : Nat) (detail : Word32) (s : State) : State :=
  let pushed := pushEntry ⟨tag, kind, BitVec.ofNat 16 subject, detail⟩ s
  if s.stack.entries.length + 1 = Config.stackHalf then pushEntry (halfEntry pushed) pushed else pushed

/-- A push by any block at the present moment (R183). -/
def push (kind : EventKind) (subject : Nat) (detail : Word32) (s : State) : State :=
  pushAt s.now kind subject detail s

/-! ## Auxiliary channels and their sums (R34, "The life of a grant") -/

/-- The record of auxiliary channel 2 to 11, which stands at place channel − 2. -/
def auxAt (s : State) (channel : Nat) : AuxChannel := s.aux.getD (channel - 2) .closed

def setAux (channel : Nat) (c : AuxChannel) (s : State) : State := { s with aux := s.aux.set (channel - 2) c }

/-- The terms of an OFFERED or HELD grant. -/
def grantTerms : Grant → Option Terms
  | .none => none
  | .queued => none
  | .offered terms _ => some terms
  | .held terms _ _ => some terms

/-- OFFERED or HELD. -/
def isGranted (c : AuxChannel) : Bool := (grantTerms c.grant).isSome

/-- What a channel counts in a pool's granted sum. -/
def powerFrom (pool : Pool) (c : AuxChannel) : Nat :=
  match grantTerms c.grant with
  | some terms => if terms.pool = pool then terms.power else 0
  | none => 0

/-- The GRANTED SUM of a pool, in 0.1 kW. -/
def grantedSum (aux : List AuxChannel) (pool : Pool) : Nat := (aux.map (powerFrom pool)).sum

/-- What a channel counts in the HELD sum. -/
def heldPower (c : AuxChannel) : Nat :=
  match c.grant with
  | .held terms _ _ => terms.power
  | _ => 0

/-- The HELD SUM over both pools, in 0.1 kW. -/
def heldSum (aux : List AuxChannel) : Nat := (aux.map heldPower).sum

/-! ## Sets of modes (R103) -/

/-- A zone's row of the zone permission table. -/
def tableRow (t : ZoneTable) : Zone → ModeSet
  | .openZone => t.openZone
  | .lowEmission => t.lowEmission
  | .zeroEmission => t.zeroEmission
  | .quiet => t.quiet

/-- A row that names at least one engine mode. -/
def namesEngineMode (m : ModeSet) : Bool := m.assist || m.charge || m.engineOnly || m.parkedCharge

/-- ENGINE ZONE: a zone whose row names at least one engine mode. -/
def engineZone (t : ZoneTable) (z : Zone) : Bool := namesEngineMode (tableRow t z)

/-! ## Solve triggers (R99 to R101) -/

/-- The traction operand: 0.0 N·m while PLUG is asserted, channel 0's value otherwise (R36, R44). -/
def tractionOperand (s : State) : Qty := if s.lines.plug.level then some 0 else s.demand.traction.value

/-- The snapshot a solve takes at its start (R101). -/
def snapshotOf (s : State) : Snapshot where
  tag := s.now
  runState := s.run.state
  context := s.horizon.context
  traction := tractionOperand s
  brake := s.demand.brake.value
  svc := s.lines.svc.level
  shaftSpeed := s.link.miuMeas.shaftSpeed
  motoring := s.link.miuMeas.motoring
  generating := s.link.miuMeas.generating
  engineSpeed := s.link.euMeas.engineSpeed
  available := s.link.euMeas.available
  soc := s.link.buMeas.soc
  discharge := s.link.buMeas.discharge
  chargeLimit := s.link.buMeas.chargeLimit
  engine := s.engine.state
  batterySum := grantedSum s.aux .battery
  generationSum := grantedSum s.aux .generation
  latch := s.solver.latch
  table := s.solver.table
  fitMode := s.items.fitMode
  trapping := s.items.trapping
  warmCap := s.items.warmCap
  engineBaseTorque := s.items.engineBaseTorque
  chargePower := s.items.chargePower
  parkedChargePower := s.items.parkedChargePower
  limpCap := s.items.limpCap

/-- R100: a trigger starts a solve while the solve state is IDLE, and sets REPEAT while it is IN_FLIGHT. -/
def trigger (s : State) : State :=
  match s.solver.solve with
  | none => { s with solver := { s.solver with solve := some (snapshotOf s) } }
  | some _ => { s with solver := { s.solver with repeatMark := true } }

/-! ## Replies (R178, R189) -/

/-- The result of a request: its code and the bytes of its fields. -/
structure Answer where
  code : ResultCode
  fields : List Byte
  deriving DecidableEq, Repr

/-- A refusal carries the result code and nothing more (R189), and changes nothing. -/
def refusedWith (code : ResultCode) (s : State) : State × Answer := (s, ⟨code, []⟩)

def doneWith (fields : List Byte) (s : State) : State × Answer := (s, ⟨.done, fields⟩)

def acceptedWith (fields : List Byte) (s : State) : State × Answer := (s, ⟨.accepted, fields⟩)

/-- R189: the request's kind plus 0x80 when that is a defined kind, 0x80 otherwise (log 20). -/
def replyKind (kind : Byte) : Byte := if kindDefined kind then kind + 0x80#8 else 0x80#8

/-- The reply frame: the result code, then the fields (R189). -/
def replyFrame (kind tag : Byte) (a : Answer) : Frame := ⟨replyKind kind, tag, u8 (resultCode a.code) ++ a.fields⟩

/-- A reply joins the tail of the reply queue (R178); a notice that found the line free has gone before it (R179). -/
def queueReply (f : Frame) (s : State) : State :=
  { s with port := { lineTakes s.port with replies := s.port.replies ++ [f] } }

/-! ## Execution (R177) -/

/-- The port begins to execute this request: it is the oldest of the receive queue, no request is in execution, and
fewer than 3 replies wait. RESET_N is not held low (log 4). -/
def canExecute (f : Frame) (s : State) : Bool :=
  !s.resetHeld && decide (s.port.executing = none) && decide (s.port.received.head? = some f) &&
    decide (s.port.replies.length < Config.executionReplyLimit)

/-- The request leaves the queue and becomes the request in execution. -/
def beginExecution (f : Frame) (s : State) : State :=
  { s with port := { s.port with received := s.port.received.tail, executing := some f } }

/-- The reply is queued after the entries of the act, and the request in execution becomes none. -/
def endExecution (f : Frame) (r : State × Answer) : State :=
  let replied := queueReply (replyFrame f.kind f.tag r.2) r.1
  { replied with port := { replied.port with executing := none } }

/-- The execution of a request of a kind, whose payload has the length the layouts chapter gives it, by its block's act.
A payload of another length is answered RANGE (R177). A request that is not the next to execute changes nothing (log 1). -/
def request (kind : Byte) (length : Nat) (tag : Byte) (payload : List Byte) (act : State → State × Answer)
    (s : State) : State :=
  let f : Frame := ⟨kind, tag, payload⟩
  if canExecute f s then
    endExecution f (if payload.length = length then act (beginExecution f s)
      else refusedWith .range (beginExecution f s))
  else s

/-- A row that is no request: it does nothing while RESET_N is held low (log 4). -/
def unlessHeld (act : State → State) (s : State) : State := if s.resetHeld then s else act s

end Sys2Proof.Machine
end

