-- ==== Sys2Proof/Machine/ArbiterOps.lean ====
section
/-! DEFINITION. The Grant Arbiter's shared acts: arbitration passes, ends of grants, revocations, budgets and the overdraw
check (04_power_grants.md, R50 to R71). Powers are in steps of 0.1 kW, energies in Wh. -/

namespace Sys2Proof.Machine

/-! ## Fitting (R55) -/

def permits (pools : PoolSet) : Pool → Bool
  | .battery => pools.battery
  | .generation => pools.generation

/-- The budget of a pool (R51). -/
def poolBudget (a : Arbiter) : Pool → Nat
  | .battery => a.batteryBudget
  | .generation => a.generationBudget

/-- A head FITS a pool. -/
def fits (s : State) (ask : Ask) (pool : Pool) : Bool :=
  permits (auxAt s ask.channel).pools pool &&
    decide (grantedSum s.aux pool + ask.power ≤ poolBudget s.arbiter pool)

/-- The pass tries GENERATION first and BATTERY second. -/
def fittingPool (s : State) (ask : Ask) : Option Pool :=
  if fits s ask .generation then some .generation
  else if fits s ask .battery then some .battery
  else none

/-- The HEAD of a class: its oldest ask (R50). -/
def headOf (queue : List Ask) (cls : LoadClass) : Option Ask := queue.find? fun ask => decide (ask.cls = cls)

/-- The head of a class with the pool it fits. -/
def fittingHead (s : State) (cls : LoadClass) : Option (Ask × Pool) :=
  match headOf s.arbiter.queue cls with
  | some ask => (fittingPool s ask).map fun pool => (ask, pool)
  | none => none

/-! ## Choosing and granting (R55 to R57, R59) -/

/-- R56. -/
def chooseFixed (s : State) : Option (Ask × Pool) :=
  if (headOf s.arbiter.queue .essential).isSome then fittingHead s .essential else fittingHead s .deferrable

/-- The class of a slot, 1 to 8, of the pattern (R57). -/
def slotClass (pattern : Byte) (slot : Nat) : LoadClass :=
  if pattern.getLsbD (slot - 1) then .deferrable else .essential

def otherClass : LoadClass → LoadClass
  | .essential => .deferrable
  | .deferrable => .essential

/-- R57. -/
def chooseWeighted (s : State) : Option (Ask × Pool) :=
  let first := slotClass s.arbiter.pattern s.arbiter.pointer
  (fittingHead s first).or (fittingHead s (otherClass first))

def choose (s : State) : Option (Ask × Pool) :=
  match s.arbiter.mode with
  | .fixed => chooseFixed s
  | .weighted => chooseWeighted s

/-- The slot after a slot, from 8 back to 1. -/
def nextSlot (slot : Nat) : Nat := if slot < 8 then slot + 1 else 1

/-- The queue without a channel's ask; the asks behind it keep their order (R50). -/
def withoutAsk (queue : List Ask) (channel : Nat) : List Ask :=
  queue.filter fun ask => decide (ask.channel ≠ channel)

/-- Power and pool of an offer as an entry's detail ("The event entry"). -/
def offerDetail (power : Nat) (pool : Pool) : Word32 :=
  word32 (byteOf (power / 256)) (byteOf power) (byteOf (poolCode pool)) 0#8

/-- Granting a head (R55, R59): the ask leaves the queue, the channel becomes OFFERED with its confirm timer, and
GRANT_OFFERED is pushed. In WEIGHTED mode the pointer advances (R57). -/
def grantAsk (ask : Ask) (pool : Pool) (s : State) : State :=
  let terms : Terms := ⟨ask.power, pool, s.now, s.arbiter.offers⟩
  let channel := { auxAt s ask.channel with grant := .offered terms (afterMs s.now s.items.confirmTimeout) }
  let arbiter := { s.arbiter with
    queue := withoutAsk s.arbiter.queue ask.channel
    offers := s.arbiter.offers + 1
    pointer := match s.arbiter.mode with
      | .fixed => s.arbiter.pointer
      | .weighted => nextSlot s.arbiter.pointer }
  push .grantOffered ask.channel (offerDetail ask.power pool) (setAux ask.channel channel { s with arbiter := arbiter })

/-- At most so many choices of one arbitration pass. -/
def passSteps : Nat → State → State
  | 0, s => s
  | n + 1, s =>
    match choose s with
    | some (ask, pool) => passSteps n (grantAsk ask pool s)
    | none => s

/-- One arbitration pass (R55): each choice takes an ask out of the queue, so the queue's length bounds them. -/
def pass (s : State) : State := passSteps s.arbiter.queue.length s

/-- An act of the Arbiter: a grant change, which is a trigger, when it ends with either granted sum changed (R52). -/
def arbiterAct (act : State → State) (s : State) : State :=
  let after := act s
  if grantedSum after.aux .battery = grantedSum s.aux .battery ∧
      grantedSum after.aux .generation = grantedSum s.aux .generation then after
  else trigger after

/-! ## Energy (R64, R65) -/

/-- Energy in Wh of a power in 0.1 kW over a time in ms, rounded once (R64). -/
def energyOf (power ms : Nat) : Nat := roundNat (power * ms) 36000

/-- The used energy at a moment: a HELD grant's accrual is added, up to 65000 Wh (R49, R64, log 19). -/
def usedAt (now : TimeTag) (c : AuxChannel) : Nat :=
  match c.grant with
  | .held terms confirmTime _ =>
    if c.used + energyOf terms.power (elapsed confirmTime now) < Config.energyMax then
      c.used + energyOf terms.power (elapsed confirmTime now)
    else Config.energyMax
  | _ => c.used

/-- R65: the exhaustion expiry of a grant confirmed at a moment, for a channel's allowance and used energy. -/
def exhaustionAt (confirmTime : TimeTag) (allowance used power : Nat) : Option TimeTag :=
  if allowance = 0 then none else some (afterMs confirmTime (roundNat ((allowance - used) * 36000) power))

/-- A channel whose grant has ended by release, close or revocation: a HELD one's used energy has risen (R64). -/
def endedGrant (now : TimeTag) (c : AuxChannel) : AuxChannel := { c with used := usedAt now c, grant := .none }

/-! ## Revocation (R67 to R69) -/

/-- DEFERRABLE before ESSENTIAL, and within a class OFFERED before HELD. -/
def revokeRank (c : AuxChannel) : Nat :=
  (match c.cls with | .deferrable => 2 | .essential => 0) +
    (match c.grant with | .offered _ _ => 1 | .held _ _ _ => 0 | .none => 0 | .queued => 0)

/-- The number of a channel's offer: the later of two offers has the higher one (R67). -/
def offerOrder (c : AuxChannel) : Nat :=
  match grantTerms c.grant with
  | some terms => terms.order
  | none => 0

/-- Whether a channel is revoked before another one. -/
def revokedBefore (c d : AuxChannel) : Bool :=
  decide (revokeRank d < revokeRank c ∨ (revokeRank c = revokeRank d ∧ offerOrder d < offerOrder c))

/-- The channel, of those eligible, that is revoked first; the list begins at the channel number given. -/
def pickVictim (eligible : AuxChannel → Bool) : Nat → List AuxChannel → Option (Nat × AuxChannel)
  | _, [] => none
  | first, c :: rest =>
    match pickVictim eligible (first + 1) rest with
    | none => if eligible c then some (first, c) else none
    | some victim => if eligible c && revokedBefore c victim.2 then some (first, c) else some victim

/-- One revocation (R67): the channel takes NONE and GRANT_REVOKED is pushed with the reason and the state it left. -/
def revoke (reason : RevokeReason) (channel : Nat) (c : AuxChannel) (s : State) : State :=
  push .grantRevoked channel (detail4 (reasonCode reason) (grantCode c.grant) 0 0)
    (setAux channel (endedGrant s.now c) s)

/-- Revocations of every eligible channel, at most so many. -/
def revokeEach (reason : RevokeReason) (eligible : AuxChannel → Bool) : Nat → State → State
  | 0, s => s
  | n + 1, s =>
    match pickVictim eligible 2 s.aux with
    | some (channel, c) => revokeEach reason eligible n (revoke reason channel c s)
    | none => s

/-- The channel holds a grant from a pool. -/
def grantedFrom (pool : Pool) (c : AuxChannel) : Bool :=
  match grantTerms c.grant with
  | some terms => decide (terms.pool = pool)
  | none => false

/-- R67: revocations from a pool until its granted sum is no more than its budget, at most so many. -/
def revokeOver (pool : Pool) : Nat → State → State
  | 0, s => s
  | n + 1, s =>
    if grantedSum s.aux pool ≤ poolBudget s.arbiter pool then s
    else
      match pickVictim (grantedFrom pool) 2 s.aux with
      | some (channel, c) => revokeOver pool n (revoke .budget channel c s)
      | none => s

/-- One ask is removed from the Grant Queue at entry to LIMP or WINDDOWN (R68, R69): state QUEUED in its entry. -/
def dropAsk (reason : RevokeReason) (s : State) (ask : Ask) : State :=
  push .grantRevoked ask.channel (detail4 (reasonCode reason) (grantCode .queued) 0 0)
    (setAux ask.channel { auxAt s ask.channel with grant := .none }
      { s with arbiter := { s.arbiter with queue := withoutAsk s.arbiter.queue ask.channel } })

/-- The asks of some classes are removed from head to tail. -/
def dropAsks (reason : RevokeReason) (dropped : LoadClass → Bool) (s : State) : State :=
  (s.arbiter.queue.filter fun ask => dropped ask.cls).foldl (dropAsk reason) s

/-- R68 and R69 in one: revocations of the granted channels of some classes, removals of their asks, and a pass if any
grant was revoked. -/
def arbiterShutOut (reason : RevokeReason) (shut : LoadClass → Bool) (s : State) : State :=
  let eligible := fun c : AuxChannel => isGranted c && shut c.cls
  let removed := dropAsks reason shut (revokeEach reason eligible s.aux.length s)
  if s.aux.any eligible then pass removed else removed

/-! ## The Arbiter's acts at a run-state change and at publication -/

/-- Entry to ACTIVE (R55). -/
def arbiterActive (s : State) : State := arbiterAct pass s

/-- Entry to LIMP (R68): every DEFERRABLE grant and ask. -/
def arbiterLimp (s : State) : State := arbiterAct (arbiterShutOut .limp fun cls => decide (cls = .deferrable)) s

/-- Entry to WINDDOWN (R69): every grant and every ask. -/
def arbiterWinddown (s : State) : State := arbiterAct (arbiterShutOut .winddown fun _ => true) s

/-- Entry to STANDBY (R51, R71). -/
def arbiterStandby (s : State) : State :=
  { s with arbiter := { s.arbiter with batteryBudget := 0, generationBudget := 0, overdrawTripped := false } }

/-- The taking of a published record (R51): its budgets, the revocations they call for, then a pass. -/
def arbiterTake (r : SplitRecord) (s : State) : State :=
  arbiterAct (fun s0 =>
    let budgeted := { s0 with arbiter := { s0.arbiter with
      batteryBudget := r.batteryBudget.toNat
      generationBudget := r.generationBudget.toNat } }
    pass (revokeOver .battery s0.aux.length (revokeOver .generation s0.aux.length budgeted))) s

/-- The end of a grant by release or close, with its pass (R46, R62). -/
def releaseGrant (channel : Nat) (s : State) : State :=
  arbiterAct (fun s0 => pass (setAux channel (endedGrant s0.now (auxAt s0 channel)) s0)) s

/-! ## The overdraw check (R71) -/

/-- The LIMIT: the HELD sum plus 1.0 kW. -/
def overdrawLimit (s : State) : Nat := heldSum s.aux + 10

/-- R71, made for each valid ACU report with the draw held after it. -/
def overdrawCheck (s : State) : State :=
  match s.link.acuDraw with
  | none => s
  | some draw =>
    if Int.ofNat (overdrawLimit s) < draw then
      if s.arbiter.overdrawTripped then s
      else
        push .auxOverdraw 4 (BitVec.ofInt 16 draw ++ BitVec.ofNat 16 (overdrawLimit s))
          { s with arbiter := { s.arbiter with overdrawTripped := true } }
    else { s with arbiter := { s.arbiter with overdrawTripped := false } }

end Sys2Proof.Machine
end

