-- ==== Sys2Proof/Machine/EngineOps.lean ====
section
/-! DEFINITION. The Engine Sequencer's shared acts (07_engine_sequencing.md, R126 to R145). -/

namespace Sys2Proof.Machine

/-! ## The engine unit as the Sequencer sees it (R128) -/

/-- The EU's last valid report carried FAULT (flag bit 1). -/
def euFault (s : State) : Bool := s.link.eu.flags.getLsbD 1

/-- The EU's last valid report carried FIRING (flag bit 5). -/
def euFiring (s : State) : Bool := s.link.eu.flags.getLsbD 5

/-- The run state is ACTIVE or LIMP. -/
def driving (s : State) : Bool := decide (s.run.state = .active ∨ s.run.state = .limp)

/-- The active zone of the context last handed on is an engine zone (R131). -/
def inEngineZone (s : State) : Bool := engineZone s.solver.table s.horizon.context.zone

/-! ## Changes of state (R144) -/

/-- A change of the engine state, with its ENGINE_STATE entry: the state left and the cause as detail. -/
def setEngine (new : EngineState) (cause : EngineCause) (s : State) : State :=
  push .engineState (engineCode new) (detail4 (engineCode s.engine.state) (engineCauseCode cause) 0 0)
    { s with engine := { s.engine with state := new } }

/-- The state timer of the present state: its expiry, or none (R126). -/
def setEngineTimer (timer : Option TimeTag) (s : State) : State :=
  { s with engine := { s.engine with timer := timer } }

/-- An act of the Sequencer: one engine state change, which is a trigger, after an act that changes the state (R144). -/
def engineAct (act : State → State) (s : State) : State :=
  let after := act s
  if after.engine.state = s.engine.state then after else trigger after

/-- To STOPPING: the stop limit starts (R137). -/
def enterStopping (cause : EngineCause) (s : State) : State :=
  setEngine .stopping cause (setEngineTimer (some (afterMs s.now Config.stopLimitMs)) s)

/-- To BARRED: ENGINE_STATE, then ENGINE_BARRED with the attempt number (R133, R137). -/
def enterBarred (reason : BarReason) (cause : EngineCause) (s : State) : State :=
  push .engineBarred (barCode (some reason)) (BitVec.ofNat 32 s.engine.attempt)
    (setEngine .barred cause
      { s with engine := { s.engine with bar := some reason, timer := none } })

/-! ## Attempts (R129, R131, R133) -/

/-- PRIMARY is available when the MIU is PRESENT with a motoring limit above 0; ALTERNATE when BELT is FITTED (R129). -/
def pathAvailable (s : State) : StartPath → Bool
  | .primary => decide (s.link.miu.health = .present) && qtyGt s.link.miuMeas.motoring 0
  | .alternate => s.lines.straps.beltFitted

def otherPath : StartPath → StartPath
  | .primary => .alternate
  | .alternate => .primary

/-- The path the attempt before used, or the path it named when it used none (R129). -/
def pathBefore (s : State) : StartPath :=
  (s.engine.path.or s.engine.named).getD s.items.firstPath

/-- The path that an attempt names (R129). -/
def pathNamed (s : State) : StartPath :=
  if s.engine.attempt ≤ 1 then s.items.firstPath
  else if s.engine.attempt = 2 then
    match s.items.retry1 with
    | .same => pathBefore s
    | .other => otherPath (pathBefore s)
  else
    match s.items.retry2 with
    | .same | .off => pathBefore s
    | .other => otherPath (pathBefore s)

/-- The path that an attempt uses: the named one where available, else the other, else none (R129). -/
def pathChosen (s : State) : Option StartPath :=
  if pathAvailable s (pathNamed s) then some (pathNamed s)
  else if pathAvailable s (otherPath (pathNamed s)) then some (otherPath (pathNamed s))
  else none

/-- An attempt remains after attempt 1, and after attempt 2 when RETRY2 is not OFF (R133). -/
def attemptRemains (s : State) : Bool :=
  decide (s.engine.attempt ≤ 1) || decide (s.engine.attempt = 2 ∧ s.items.retry2 ≠ .off)

/-- A failed attempt (R133): START_FAILED, then RESTING with a fresh rest, or BARRED with START_FAIL. A state that is
RESTING already pushes no ENGINE_STATE. -/
def failAttempt (reason : StartFailure) (cause : EngineCause) (s : State) : State :=
  let failed := push .startFailed s.engine.attempt (detail4 (pathCode s.engine.path) (failureCode reason) 0 0)
    (setEngineTimer none s)
  if attemptRemains s then
    let rested := setEngineTimer (some (afterMs s.now s.items.restTime)) failed
    if s.engine.state = .resting then rested else setEngine .resting cause rested
  else enterBarred .startFail cause failed

/-- An attempt begins (R131): its path is chosen, and it fails at once or enters CRANKING. -/
def beginAttempt (cause : EngineCause) (s : State) : State :=
  let chosen := { s with engine := { s.engine with path := pathChosen s, named := some (pathNamed s) } }
  if euFault s then failAttempt .euFault cause chosen
  else if pathChosen s = none then failAttempt .noPath cause chosen
  else setEngine .cranking cause (setEngineTimer (some (afterMs s.now s.items.crankLimit)) chosen)

/-- The START CONDITIONS (R131). -/
def startConditions (s : State) : Bool :=
  driving s && inEngineZone s && !s.lines.svc.level && decide (s.link.eu.health = .present) && !euFault s

/-- A START SEQUENCE begins (R131). -/
def startSequence (s : State) : State :=
  beginAttempt .wanted
    { s with engine := { s.engine with attempt := 1, faultNoted := false, bar := none } }

/-! ## Taking a published record (R130) -/

/-- The min-run expiry is unexpired: the present time tag is below it (R126). -/
def minRunUnexpired (s : State) : Bool :=
  match s.engine.minRun with
  | some expiry => below s.now expiry
  | none => false

/-- R130's rule for RUNNING with engine_wanted NO. -/
def leaveRunning (s : State) : State :=
  if minRunUnexpired s then setEngine .holding .notWanted s else enterStopping .notWanted s

/-- R130. -/
def engineTake (r : SplitRecord) (s : State) : State :=
  engineAct (fun s0 =>
    let noted := { s0 with engine := { s0.engine with wanted := r.engineWanted } }
    match s0.engine.state, r.engineWanted with
    | .off, true => if startConditions noted then startSequence noted else noted
    | .running, false => leaveRunning noted
    | .holding, true => setEngine .running .wanted noted
    | _, _ => noted) s

/-! ## The end of a rest (R134) -/

def restEnds (s : State) : State :=
  if s.engine.wanted && driving s && inEngineZone s then
    beginAttempt .restEnd { s with engine := { s.engine with attempt := s.engine.attempt + 1 } }
  else setEngine .off .restEnd (setEngineTimer none s)

/-! ## Firing, warming (R132, R135) -/

/-- The catalyst temperature held is at least LIGHT_OFF. -/
def catalystWarm (s : State) : Bool := qtyGe s.link.euMeas.catalyst (Int.ofNat s.items.lightOff)

/-- An attempt ends with success (R132). MIN_RUN and WARM_LIMIT are in seconds. -/
def attemptSucceeds (s : State) : State :=
  let fired := { s with engine := { s.engine with
    minRun := some (afterMs s.now (1000 * s.items.minRun)), timer := none } }
  if catalystWarm s then
    let running := setEngine .running .fired fired
    if s.engine.wanted then running else leaveRunning running
  else setEngine .warming .fired (setEngineTimer (some (afterMs s.now (1000 * s.items.warmLimit))) fired)

/-- The warm-up ends (R135). -/
def warmUpEnds (cause : EngineCause) (s : State) : State :=
  let cancelled := setEngineTimer none s
  if s.engine.wanted then setEngine .running cause cancelled
  else if minRunUnexpired s then setEngine .holding cause cancelled
  else enterStopping cause cancelled

/-! ## Stops (R137 to R139) -/

/-- STOPPING ends with the engine not firing (R137): OFF, or BARRED with FAULT when a fault was noted. -/
def stopEnds (s : State) : State :=
  let ended := { s with engine := { s.engine with faultNoted := false, timer := none } }
  if s.engine.faultNoted then enterBarred .fault .stopped ended else setEngine .off .stopped ended

/-- The stop limit expires (R137): on an engine that fires, BARRED with STOP_FAIL, which wins over FAULT. -/
def stopLimitEnds (s : State) : State :=
  if euFiring s then
    enterBarred .stopFail .stopLimit { s with engine := { s.engine with faultNoted := false } }
  else stopEnds s

/-- A FORCED STOP (R138). -/
def forcedStop (cause : EngineCause) (s : State) : State :=
  engineAct (fun s0 =>
    match s0.engine.state with
    | .cranking | .warming | .running | .holding => enterStopping cause s0
    | .resting => setEngine .off cause (setEngineTimer none s0)
    | .off | .stopping | .barred | .detached => s0) s

/-- FAULT in a firing engine (R139): STOPPING with the fault noted. -/
def faultStop (s : State) : State :=
  enterStopping .euFault { s with engine := { s.engine with faultNoted := true } }

/-! ## EU reports, loss and restoration (R132 to R142) -/

/-- A valid EU report in its state, with the flags and measurements held after it. In STOPPING a report that carries both
FAULT and the engine at rest notes the fault first; in WARMING one that carries FAULT and brings the catalyst to LIGHT_OFF
is taken as the fault alone (log 17). -/
def engineReport (s : State) : State :=
  match s.engine.state with
  | .cranking =>
    if euFault s then failAttempt .euFault .startFailed s
    else if euFiring s && qtyGe s.link.euMeas.engineSpeed 600 then attemptSucceeds s
    else s
  | .warming =>
    if euFault s then faultStop s
    else if catalystWarm s then warmUpEnds .warmed s
    else s
  | .running | .holding => if euFault s then faultStop s else s
  | .stopping =>
    let noted := if euFault s then { s with engine := { s.engine with faultNoted := true } } else s
    if !euFiring s && qtyLt s.link.euMeas.engineSpeed 100 then stopEnds noted else noted
  | .off | .resting | .barred | .detached => s

/-- The forced stop's cause after a restoration, where one is due (R142). -/
def restoredStopCause (s : State) : Option EngineCause :=
  if !driving s then some .winddown
  else if !inEngineZone s then some .zone
  else if s.lines.svc.level then some .service
  else none

/-- R142, from DETACHED: the restoring report's FIRING flag decides. -/
def engineRestored (s : State) : State :=
  if euFiring s then
    let running := setEngine .running .euRestored
      { s with engine := { s.engine with minRun := some s.now } }
    match restoredStopCause s with
    | some cause => enterStopping cause running
    | none =>
      if euFault s then faultStop running
      else if s.engine.wanted then running
      else enterStopping .notWanted running
  else setEngine .off .euRestored s

/-- The Sequencer takes an EU report; `entered` says whether the report made the EU PRESENT from LOST or JOINING
(R128, R142, R165). -/
def engineTakeReport (entered : Bool) (s : State) : State :=
  engineAct (fun s0 =>
    if entered && decide (s0.engine.state = .detached) then engineRestored s0 else engineReport s0) s

/-- The EU is declared LOST (R141). -/
def engineLost (s : State) : State :=
  engineAct (fun s0 =>
    match s0.engine.state with
    | .barred | .detached => s0
    | _ => setEngine .detached .euLost
        { s0 with engine := { s0.engine with timer := none, minRun := none, faultNoted := false } }) s

/-! ## What the Sequencer orders (R143) -/

/-- The current split record where it is of this drive, the empty record otherwise (R157, log 22). -/
def effectiveRecord (s : State) : SplitRecord := if s.solver.ofThisDrive then s.solver.record else .empty

/-- The decision of R143. -/
structure EngineDecision where
  request : EuRequest
  path : Option StartPath
  clutch : Clutch
  torque : Int
  miuCranks : Bool
  deriving DecidableEq, Repr

/-- R143, for the present state and the current record. WARM_CAP is in whole N·m. While the request is RUN or STOP the
path is none, sent as 0xFF (DESIGN CHOICE, log 30). -/
def engineDecision (s : State) : EngineDecision :=
  let r := effectiveRecord s
  match s.engine.state with
  | .cranking =>
    if s.engine.path = some .alternate then ⟨.crank, some .alternate, .opened, 0, false⟩
    else ⟨.crank, some .primary, .slip, 0, true⟩
  | .warming =>
    ⟨.run, none, .closed,
      if Int.ofNat (2 * s.items.warmCap) < r.engineTorque then Int.ofNat (2 * s.items.warmCap) else r.engineTorque,
      false⟩
  | .running | .holding => ⟨.run, none, r.clutch, r.engineTorque, false⟩
  | .off | .resting | .stopping | .barred | .detached => ⟨.stop, none, .opened, 0, false⟩

/-- The engine counts as at rest for WINDDOWN (R23, R155). -/
def engineAtRest (s : State) : Bool :=
  decide (s.engine.state = .off ∨ s.engine.state = .barred ∨ s.engine.state = .detached)

end Sys2Proof.Machine
end

