-- ==== Sys2Proof/Machine/RunOps.lean ====
section
/-! DEFINITION. Run Control's changes of run state and of the limp cause set, with what the other blocks do at each
(R17 to R24, and R41 to R43, R149, R154 of those blocks). -/

namespace Sys2Proof.Machine

/-! ## The demand channels at run-state changes (R36, R41 to R43) -/

/-- Each demand channel's timer starts, to expire DEMAND_TIMEOUT after the moment (R37). -/
def demandExpiry (s : State) : TimeTag := afterMs s.now s.items.demandTimeout

/-- R41: channel 0's timer is started if it is STOPPED. -/
def channelsActive (s : State) : State :=
  if s.demand.traction.timer = none then
    { s with demand := { s.demand with traction := { s.demand.traction with timer := some (demandExpiry s) } } }
  else s

/-- Both channels after entry to WINDDOWN (R42). -/
def demandWinddown (d : Demand) : Demand :=
  { d with
    traction := { d.traction with
      value := if d.traction.fresh then some 0 else d.traction.value, fresh := false, timer := none }
    brake := { d.brake with value := some 0, fresh := false, timer := none } }

/-- Both channels after entry to STANDBY (R43). -/
def demandStandby (d : Demand) : Demand :=
  { d with
    traction := { d.traction with value := none, fresh := false, timer := none }
    brake := { d.brake with value := some 0, fresh := false, timer := none }
    lost := false }

/-- The table's own changes: one demand change, which is a trigger, if either value changed (R36). -/
def demandAct (act : Demand → Demand) (s : State) : State :=
  let after := { s with demand := act s.demand }
  if after.demand.traction.value = s.demand.traction.value ∧ after.demand.brake.value = s.demand.brake.value then after
  else trigger after

/-! ## The limp cause set (R18) -/

def withCause (cause : LimpCause) (present : Bool) (c : LimpCauses) : LimpCauses :=
  match cause with
  | .miuLost => { c with miuLost := present }
  | .buLost => { c with buLost := present }
  | .linkDown => { c with linkDown := present }
  | .service => { c with service := present }
  | .demandLost => { c with demandLost := present }

/-- The set with a cause joined or left. -/
def markCause (cause : LimpCause) (present : Bool) (s : State) : State :=
  { s with run := { s.run with causes := withCause cause present s.run.causes } }

/-! ## Changes of the run state (R24, R187) -/

/-- The change itself: the new state, the last change, LIMP_OUT, and the RUN_STATE entry. -/
def changeRun (new : RunState) (s : State) : State :=
  push .runState (runStateCode new) (BitVec.ofNat 32 (causesCode s.run.causes))
    { s with
      run := { s.run with state := new, lastChange := s.now }
      outputs := { s.outputs with limpOut := decide (new = .limp) } }

/-- Entry to LIMP (R19, R68): the Arbiter acts before the change's own trigger (DEDUCED, log 6). -/
def enterLimp (s : State) : State := trigger (arbiterLimp (changeRun .limp s))

/-- Link frames start at entry to ACTIVE from STANDBY (R154), and no record is of the new drive yet (R157). -/
def startFrames (s : State) : State :=
  { s with
    link := { s.link with
      frame := .waiting, timer := some (afterMs s.now s.items.framePeriod), periodRead := s.items.framePeriod }
    solver := { s.solver with ofThisDrive := false } }

/-- Entry to ACTIVE by LIMP_CLEAR or RUN, the link apart (R21, R41, R55). -/
def enterActive (s : State) : State := channelsActive (arbiterActive (changeRun .active s))

/-- R20: entry to ACTIVE from STANDBY, with its trigger, and on to LIMP at once with a cause present (R19; the order of the
triggers DEDUCED, log 6). -/
def startDrive (s : State) : State :=
  let active := trigger (startFrames (enterActive s))
  if active.run.causes = LimpCauses.empty then active else enterLimp active

/-- R21: return from LIMP to ACTIVE; the blocks act before the change's own trigger (DEDUCED, log 6). -/
def clearLimp (s : State) : State := trigger (enterActive s)

/-- Entry to WINDDOWN (R22, R42, R69, R138): the Channel Table first, so that every solve that starts in the entry works
from the demands R42 leaves, then the Arbiter and the Sequencer (DEDUCED, log 6). -/
def enterWinddown (s : State) : State :=
  trigger (forcedStop .winddown (arbiterWinddown (demandAct demandWinddown (changeRun .winddown s))))

/-- The IGN fall and HALT (R22): WINDDOWN from ACTIVE and LIMP, nothing else. -/
def endShift (s : State) : State := if driving s then enterWinddown s else s

/-- LANE_STATE of a pending restore at entry to STANDBY: CANCELLED, the lane staying as it is (R149). -/
def cancelRestore (lane : LaneId) (state : LaneState) (s : State) : State :=
  push .laneState (laneCode lane) (detail4 (laneStateCode state) (laneStateCode state) (laneCauseCode .cancelled) 0) s

/-- The link at entry to STANDBY (R149, R154); of two pending restores lane A's is cancelled first (DESIGN CHOICE, log 6). -/
def linkStandby (s : State) : State :=
  let stopped := { s with link := { s.link with
    frame := .noFrames, timer := none
    laneA := { s.link.laneA with restorePending := false }
    laneB := { s.link.laneB with restorePending := false } } }
  let onA := if s.link.laneA.restorePending then cancelRestore .a s.link.laneA.state stopped else stopped
  if s.link.laneB.restorePending then cancelRestore .b s.link.laneB.state onA else onA

/-- Entry to STANDBY (R23, R43, R51, R71, R149, R154): the DEMAND_LOST cause leaves the set without an entry; the blocks act
before the change's own trigger (DEDUCED, log 6). -/
def enterStandby (s : State) : State :=
  trigger (arbiterStandby (demandAct demandStandby (markCause .demandLost false (linkStandby (changeRun .standby s)))))

/-- R23: a quiet frame's completion ends WINDDOWN while the engine is at rest. -/
def quietFrameDone (s : State) : State :=
  if s.run.state = .winddown ∧ engineAtRest s = true then enterStandby s else s

/-- A cause joins the set: in ACTIVE the run state goes to LIMP (R18, R19). -/
def causeBegins (cause : LimpCause) (s : State) : State :=
  let marked := markCause cause true s
  if s.run.state = .active then enterLimp marked else marked

/-- A cause leaves the set (R18). -/
def causeEnds (cause : LimpCause) (s : State) : State := markCause cause false s

end Sys2Proof.Machine
end

