-- ==== Sys2Proof/Machine/ChannelRequests.lean ====
section
/-! DEFINITION. The requests of the Channel Table: CHANNEL_OPEN, CHANNEL_CLOSE, CHANNEL_READ, DEMAND (R35, R36, R39, R45 to
R49). -/

namespace Sys2Proof.Machine

/-! ## Opening and closing (R45, R46) -/

/-- A set of pools as a request gives it: not empty, BATTERY and GENERATION alone. -/
def poolsGiven (b : Byte) : Option PoolSet := if 1 ≤ b.toNat ∧ b.toNat ≤ 3 then some (poolsOf b) else none

/-- R45. -/
def channelOpenAct (payload : List Byte) (s : State) : State × Answer :=
  let channel := nat8 payload 0
  if 11 < channel then refusedWith .range s
  else if channel < 2 ∨ (auxAt s channel).isOpen = true then refusedWith .state s
  else
    match classOf (nat8 payload 1), poolsGiven (at8 payload 2) with
    | some cls, some pools =>
      if nat16 payload 3 ≤ 20000 then
        doneWith [] (setAux channel ⟨true, cls, pools, nat16 payload 3, 0, .none⟩ s)
      else refusedWith .range s
    | _, _ => refusedWith .range s

/-- R46: what the close does by the grant state found. A close of an OFFERED or HELD grant is followed by a pass. -/
def closeChannel (channel : Nat) (s : State) : State :=
  let c := auxAt s channel
  let closed := { endedGrant s.now c with isOpen := false }
  match c.grant with
  | .none => setAux channel closed s
  | .queued =>
    setAux channel closed { s with arbiter := { s.arbiter with queue := withoutAsk s.arbiter.queue channel } }
  | .offered _ _ | .held _ _ _ => arbiterAct (fun s0 => pass (setAux channel closed s0)) s

/-- R46. -/
def channelCloseAct (payload : List Byte) (s : State) : State × Answer :=
  let channel := nat8 payload 0
  if 11 < channel then refusedWith .range s
  else if channel < 2 then refusedWith .state s
  else if (auxAt s channel).isOpen = false then refusedWith .absent s
  else
    doneWith (u8 (grantCode (auxAt s channel).grant) ++ u16 (usedAt s.now (auxAt s channel)))
      (closeChannel channel s)

/-! ## Reading (R48, R49) -/

/-- R48. -/
def demandChannelBytes (c : DemandChannel) (lost plug : Bool) : List Byte :=
  signedQty c.value ++ be32 c.arrival ++ unlisted (if c.fresh then .freshnessFresh else .freshnessStale) ++ flag lost ++
    unlisted (if c.timer.isSome then .demandTimerRunning else .demandTimerStopped) ++ optional 4 (c.timer.map be32) ++
    flag plug

/-- The confirm time while HELD. -/
def confirmTimeOf : Grant → Option TimeTag
  | .held _ confirmTime _ => some confirmTime
  | _ => none

/-- R49: the record of R34, the used energy with the accrual to the moment of the read. -/
def auxChannelBytes (now : TimeTag) (c : AuxChannel) : List Byte :=
  unlisted (if c.isOpen then .channelOpen else .channelClosed) ++ u8 (classCode c.cls) ++ u8 (poolsCode c.pools) ++
    u16 c.allowance ++ u16 (usedAt now c) ++ u8 (grantCode c.grant) ++
    optional 2 ((grantTerms c.grant).map fun t => u16 t.power) ++
    optional 1 ((grantTerms c.grant).map fun t => u8 (poolCode t.pool)) ++
    optional 4 ((grantTerms c.grant).map fun t => be32 t.offerTime) ++
    optional 4 ((confirmTimeOf c.grant).map be32)

/-- R48, R49. The substitution flag is the level of PLUG for either demand channel (log 27). -/
def channelReadAct (payload : List Byte) (s : State) : State × Answer :=
  let channel := nat8 payload 0
  if 11 < channel then refusedWith .range s
  else if channel = 0 then doneWith (demandChannelBytes s.demand.traction s.demand.lost s.lines.plug.level) s
  else if channel = 1 then doneWith (demandChannelBytes s.demand.brake false s.lines.plug.level) s
  else doneWith (auxChannelBytes s.now (auxAt s channel)) s

/-! ## DEMAND (R35, R36, R39) -/

/-- A demand channel after an accepted DEMAND (R35). -/
def demandTaken (s : State) (value : Int) : DemandChannel := ⟨some value, s.now, true, some (demandExpiry s)⟩

/-- R39, steps 1 to 3: the restoration of a lost channel 0. -/
def restoreDemand (s : State) : State :=
  if s.demand.lost then
    causeEnds .demandLost
      (push .demandRestored 0 (s.now - s.demand.lostAt) { s with demand := { s.demand with lost := false } })
  else s

/-- An accepted DEMAND for channel 0, handed on once (R35, R36, R39). -/
def takeTraction (value : Int) (s : State) : State :=
  trigger (restoreDemand { s with demand := { s.demand with traction := demandTaken s value } })

/-- An accepted DEMAND for channel 1 (R35, R36). -/
def takeBrake (value : Int) (s : State) : State :=
  trigger { s with demand := { s.demand with brake := demandTaken s value } }

/-- R35: 600.0 N·m for channel 0 and 400.0 N·m for channel 1 are 1200 and 800 steps. -/
def demandAccepted (payload : List Byte) (s : State) : State × Answer :=
  let value := int16 payload 1
  if nat8 payload 0 = 0 then
    if 0 ≤ value ∧ value ≤ 1200 then doneWith [] (takeTraction value s) else refusedWith .range s
  else
    if 0 ≤ value ∧ value ≤ 800 then doneWith [] (takeBrake value s) else refusedWith .range s

/-- R35, its first two checks. -/
def demandRequestAct (payload : List Byte) (s : State) : State × Answer :=
  if 1 < nat8 payload 0 then refusedWith .range s
  else if driving s then demandAccepted payload s
  else refusedWith .state s

/-- CHANNEL_OPEN. -/
def execChannelOpen (tag : Byte) (payload : List Byte) (s : State) : Effect :=
  .next (request 0x09#8 5 tag payload (channelOpenAct payload) s)

/-- CHANNEL_CLOSE. -/
def execChannelClose (tag : Byte) (payload : List Byte) (s : State) : Effect :=
  .next (request 0x0A#8 1 tag payload (channelCloseAct payload) s)

/-- CHANNEL_READ. -/
def execChannelRead (tag : Byte) (payload : List Byte) (s : State) : Effect :=
  .next (request 0x0B#8 1 tag payload (channelReadAct payload) s)

/-- DEMAND. -/
def execDemand (tag : Byte) (payload : List Byte) (s : State) : Effect :=
  .next (request 0x0C#8 3 tag payload (demandRequestAct payload) s)

end Sys2Proof.Machine
end

