-- ==== Sys2Proof/Machine/TrackerOps.lean ====
section
/-! DEFINITION. The Horizon Store and the Horizon Tracker (05_the_route_horizon.md, R72 to R97): lists, completions and
swaps, the reserve, and the end of an act of the Tracker. -/

namespace Sys2Proof.Machine

/-! ## Lists (R72, R75) -/

def activeList (h : Horizon) : List Segment :=
  if h.paged then (if h.activeA then h.pageA else h.pageB) else h.single

/-- The standby page of PAGED; in SINGLE there is none. -/
def standbyList (h : Horizon) : List Segment :=
  if h.paged then (if h.activeA then h.pageB else h.pageA) else []

def setActiveList (l : List Segment) (h : Horizon) : Horizon :=
  if h.paged then (if h.activeA then { h with pageA := l } else { h with pageB := l }) else { h with single := l }

/-- The name of the active list. -/
def activeName (h : Horizon) : ListName := if h.paged then (if h.activeA then .pageA else .pageB) else .single

/-- The list that SEGMENT_ADD loads and PAGE_CLEAR empties: the standby page, or the one list (R75). -/
def loadingName (h : Horizon) : ListName := if h.paged then (if h.activeA then .pageB else .pageA) else .single

def listNamed (h : Horizon) : ListName → List Segment
  | .pageA => h.pageA
  | .pageB => h.pageB
  | .single => h.single

def setListNamed (name : ListName) (l : List Segment) (h : Horizon) : Horizon :=
  match name with
  | .pageA => { h with pageA := l }
  | .pageB => { h with pageB := l }
  | .single => { h with single := l }

def listCapacity : ListName → Nat
  | .single => Config.singleCapacity
  | _ => Config.pageCapacity

/-- The records of every list. -/
def recordsHeld (h : Horizon) : Nat := h.pageA.length + h.pageB.length + h.single.length

def setHorizon (h : Horizon) (s : State) : State := { s with horizon := h }

/-! ## The reserve (R88, R89, R91 to R95) -/

/-- R88, in percent. -/
def payloadFactor (payloadClass : Nat) : Nat := 100 + 15 * payloadClass

/-- R89: the rate for a grade class, in Wh/km. -/
def rateOf (c : Consumption) (grade : Int) : Nat :=
  if grade ≤ -3 then c.m3 else if grade = -2 then c.m2 else if grade = -1 then c.m1 else if grade = 0 then c.g0
  else if grade = 1 then c.p1 else if grade = 2 then c.p2 else c.p3

/-- R91. -/
def lookAhead (h : Horizon) : List Segment :=
  if h.paged && h.swapPending then
    match activeList h with
    | [] => []
    | g :: _ => g :: standbyList h
  else activeList h

def isZero (g : Segment) : Bool := decide (g.zone = .zeroEmission)

/-- The segments of the sequence before the run (R92). -/
def beforeRun (q : List Segment) : List Segment := q.takeWhile fun g => !isZero g

/-- The ZERO-EMISSION RUN (R92). -/
def zeroRun (q : List Segment) : List Segment := (q.dropWhile fun g => !isZero g).takeWhile isZero

def capEnergy (n : Nat) : Nat := if n < Config.energyMax then n else Config.energyMax

/-- SEGMENT ENERGY over a length in m, rounded once to 1 Wh (R92). -/
def segmentEnergy (h : Horizon) (g : Segment) (length : Nat) : Nat :=
  capEnergy (roundNat (length * rateOf h.consumption g.grade * payloadFactor h.payloadClass +
    (g.stops * h.consumption.stop + g.lifts * h.consumption.lift) * 100000) 100000)

/-- The energies of the run: the active segment, when it lies in the run, counts the length still ahead (R92). -/
def runEnergies (h : Horizon) : List Nat :=
  match beforeRun (lookAhead h), zeroRun (lookAhead h) with
  | [], g :: rest => segmentEnergy h g (g.length - h.distance) :: rest.map fun r => segmentEnergy h r r.length
  | _, run => run.map fun r => segmentEnergy h r r.length

/-- R93. -/
def reserveOf (h : Horizon) : Nat := capEnergy (runEnergies h).sum

/-- The DISTANCE TO THE RUN, or none (R93). -/
def runDistanceOf (h : Horizon) : Option Nat :=
  if zeroRun (lookAhead h) = [] then none
  else
    match beforeRun (lookAhead h) with
    | [] => some 0
    | before => some ((before.map (·.length)).sum - h.distance)

/-- R94. -/
def chargeAheadOf (items : Items) (h : Horizon) : Bool :=
  match runDistanceOf h with
  | some distance => !(beforeRun (lookAhead h)).isEmpty && decide (distance ≤ items.lookAhead)
  | none => false

/-- The CHARGE-AHEAD TARGET before its limit, rounded once to 0.1 %, or none (R95). -/
def targetBeforeLimit (items : Items) (h : Horizon) : Option Nat :=
  match zeroRun (lookAhead h) with
  | [] => none
  | g :: _ => some (roundNat ((g.floor.getD items.socFloor + items.chargeMargin) * items.batteryCapacity +
      reserveOf h * 1000) items.batteryCapacity)

/-- The target: a result above 100.0 % becomes 100.0 % (R95). -/
def targetOf (items : Items) (h : Horizon) : Option Nat :=
  (targetBeforeLimit items h).map fun t => if 1000 < t then 1000 else t

/-- The SHORT flag (R95). -/
def shortOf (items : Items) (h : Horizon) : Bool :=
  match targetBeforeLimit items h with
  | some t => decide (1000 < t)
  | none => false

/-! ## The zone context (R87, R97) -/

/-- The active zone: the active segment's, or DEFAULT_ZONE while the active list is empty (R87). -/
def activeZone (items : Items) (h : Horizon) : Zone := ((activeList h).head?.map (·.zone)).getD items.defaultZone

/-- The zone context as the horizon now stands (R97). -/
def contextOf (items : Items) (h : Horizon) : ZoneContext where
  segmentId := ((activeList h).head?.map (·.id)).getD 0
  zone := activeZone items h
  dwell := ((activeList h).head?.bind (·.dwell)).getD false
  floor := ((activeList h).head?.bind (·.floor)).getD items.socFloor
  chargeAhead := chargeAheadOf items h
  target := targetOf items h
  short := shortOf items h

/-! ## The end of an act of the Tracker (R86, R87, R95 to R97) -/

/-- ZONE_ENTRY, if the active zone differs from the zone held (R87). -/
def pushZoneEntry (c : ZoneContext) (s : State) : State :=
  if c.zone = s.horizon.context.zone then s
  else push .zoneEntry (zoneCode c.zone) (BitVec.ofNat 32 c.segmentId) s

/-- RESERVE_SHORT, if the SHORT flag goes from clear to set: the run's first segment and the reserve (R95). -/
def pushReserveShort (c : ZoneContext) (s : State) : State :=
  if c.short && !s.horizon.context.short then
    push .reserveShort (((zeroRun (lookAhead s.horizon)).head?.map (·.id)).getD 0)
      (BitVec.ofNat 32 (reserveOf s.horizon)) s
  else s

/-- The context is handed to the Split Solver, and to the Engine Sequencer, which takes a marked zone change into a zone
that is no engine zone as a forced stop (R97, R138). The Solver's trigger comes before that forced stop (DESIGN CHOICE,
log 6). -/
def handContext (c : ZoneContext) (s : State) : State :=
  if c = s.horizon.context then s
  else
    let handed := trigger (setHorizon { s.horizon with context := c } s)
    if c.zone ≠ s.horizon.context.zone ∧ engineZone s.solver.table c.zone = false then forcedStop .zone handed
    else handed

/-- The end of an act of the Tracker: the active zone judged, the reserve computed afresh, the context handed on. -/
def trackerEnd (s : State) : State :=
  let c := contextOf s.items s.horizon
  let entered := pushReserveShort c (pushZoneEntry c s)
  handContext c (setHorizon { entered.horizon with
    reserve := reserveOf s.horizon, runDistance := runDistanceOf s.horizon } entered)

/-! ## Swaps, completions, running out (R78, R82 to R85) -/

/-- The swap of the pages: the standby page becomes active, the former active page is emptied, the mark CLEAR (R78). -/
def swapPages (h : Horizon) : Horizon :=
  if h.activeA then { h with activeA := false, pageA := [], swapPending := false }
  else { h with activeA := true, pageB := [], swapPending := false }

/-- SWAP_DONE: byte 0 the form, bytes 2 and 3 the records discarded. -/
def pushSwapDone (form : SwapForm) (discarded : Nat) (s : State) : State :=
  push .swapDone (listCode (activeName s.horizon))
    (word32 (byteOf (swapFormCode form)) 0#8 (byteOf (discarded / 256)) (byteOf discarded)) s

/-- A swap made by PAGE_SWAP when it is taken: the position becomes 0 (R78, R79, R80). -/
def swapNow (form : SwapForm) (s : State) : State :=
  pushSwapDone form (activeList s.horizon).length
    (setHorizon { swapPages s.horizon with distance := 0, carry := 0 } s)

/-- SEGMENT_DONE of a segment. -/
def pushSegmentDone (reason : DoneReason) (s : State) (g : Segment) : State :=
  push .segmentDone g.id (BitVec.ofNat 32 (doneReasonCode reason)) s

/-- HORIZON_EMPTY of the list that emptied. -/
def pushHorizonEmpty (name : ListName) (cause : EmptyCause) (s : State) : State :=
  push .horizonEmpty (listCode name) (BitVec.ofNat 32 (emptyCauseCode cause)) s

/-- R84: the horizon has run out. -/
def runOut (s : State) : State :=
  pushHorizonEmpty (activeName s.horizon) .completed
    (setHorizon { s.horizon with distance := 0, carry := 0 } s)

/-- The head completes (R82): SEGMENT_DONE, then a pending swap (R83), and the overshoot as the distance into the next
head. -/
def completeHead (g : Segment) (rest : List Segment) (s : State) : State :=
  let overshoot := s.horizon.distance - g.length
  let done := pushSegmentDone .completed
    (setHorizon { setActiveList rest s.horizon with distance := overshoot } s) g
  if s.horizon.paged && s.horizon.swapPending then
    pushSwapDone .atBoundary rest.length (setHorizon (swapPages done.horizon) done)
  else done

/-- Completions as far as the distance requires, at most so many; the horizon runs out when none is left (R82, R84). -/
def completeHeads : Nat → State → State
  | 0, s => s
  | n + 1, s =>
    match activeList s.horizon with
    | [] => s
    | g :: rest =>
      if s.horizon.distance < g.length then s
      else
        let done := completeHead g rest s
        if activeList done.horizon = [] then runOut done else completeHeads n done

/-- The Tracker takes the distance of an MIU report in dm (R81, R82): a report that changes only the carry is no position
change. -/
def takeDistance (dm : Nat) (s : State) : State :=
  if activeList s.horizon = [] then s
  else
    let total := s.horizon.carry + dm
    let moved := setHorizon { s.horizon with
      distance := s.horizon.distance + total / 10, carry := total % 10 } s
    if total / 10 = 0 then moved else trackerEnd (completeHeads (recordsHeld s.horizon) moved)

end Sys2Proof.Machine
end

