-- ==== Sys2Proof/Machine/ConfigRequests.lean ====
section
/-! DEFINITION. CONFIG_SET and CONFIG_GET (R31, R32). -/

namespace Sys2Proof.Machine

/-- CONFIG_SET's value, a signed 32-bit integer. -/
def configValue (payload : List Byte) : Int := (at32 payload 1).toInt

/-- What an item's owner does at a change: a Solver item is a trigger (R99, R120), a Tracker's setting an act of the
Tracker (R90). The other owners read their items when they next need them. -/
def itemChanged (i : Item) (s : State) : State :=
  if solverItem i then trigger s else if trackerItem i then trackerEnd s else s

/-- R31. -/
def configSetAct (payload : List Byte) (s : State) : State × Answer :=
  match itemOf (nat8 payload 0) with
  | none => refusedWith .range s
  | some i =>
    let v := configValue payload
    if itemStandbyOnly i = true ∧ s.run.state ≠ .standby then refusedWith .state s
    else if itemInRange i v then
      doneWith (u32 v.toNat)
        (if v.toNat = itemGet s.items i then s
         else itemChanged i { s with items := itemSet s.items i v.toNat })
    else refusedWith .range s

/-- R32: value, class (LIVE 0, STANDBY-ONLY 1), acceptance. -/
def configGetAct (payload : List Byte) (s : State) : State × Answer :=
  match itemOf (nat8 payload 0) with
  | none => refusedWith .range s
  | some i =>
    doneWith (u32 (itemGet s.items i) ++ flag (itemStandbyOnly i) ++
      flag (!itemStandbyOnly i || decide (s.run.state = .standby))) s

/-- CONFIG_SET. -/
def execConfigSet (tag : Byte) (payload : List Byte) (s : State) : Effect :=
  .next (request 0x06#8 5 tag payload (configSetAct payload) s)

/-- CONFIG_GET. -/
def execConfigGet (tag : Byte) (payload : List Byte) (s : State) : Effect :=
  .next (request 0x07#8 1 tag payload (configGetAct payload) s)

end Sys2Proof.Machine
end

