-- ==== Sys2Proof/Machine/EngineRows.lean ====
section
/-! DEFINITION. The rows of the Engine Sequencer: ENGINE_READ, ENGINE_REARM and the expiries of its timers (R133 to R137,
R140, R145). -/

namespace Sys2Proof.Machine

/-! ## ENGINE_READ (R145) -/

/-- The name of the state timer that runs; CRANKING, RESTING, WARMING and STOPPING own one each (R126). -/
def timerName (e : Engine) : Config.UnlistedValue :=
  if e.timer = none then .stateTimerNone
  else
    match e.state with
    | .cranking => .stateTimerCrankLimit
    | .resting => .stateTimerRest
    | .warming => .stateTimerWarmLimit
    | .stopping => .stateTimerStopLimit
    | .off | .running | .holding | .barred | .detached => .stateTimerNone

/-- A clutch state that can be INVALID, 0xFF (R188). -/
def clutchBytes : Option Clutch → List Byte
  | some c => u8 (clutchCode c)
  | none => [0xFF#8]

/-- The EU's five measurements. -/
def euMeasurementBytes (m : EuMeasurements) : List Byte :=
  unsignedQty m.engineSpeed ++ signedQty m.torque ++ signedQty m.available ++ signedQty m.catalyst ++
    clutchBytes m.clutch

/-- The decision of R143 as ENGINE_READ returns it. -/
def decisionBytes (d : EngineDecision) : List Byte :=
  u8 (euRequestCode d.request) ++ u8 (pathCode d.path) ++ u8 (clutchCode d.clutch) ++ i16 d.torque ++ flag d.miuCranks

/-- R145; the time tag of the measurements is sent after them (DESIGN CHOICE, log 9). -/
def engineReadAct (s : State) : State × Answer :=
  doneWith (u8 (engineCode s.engine.state) ++ u8 s.engine.attempt ++ u8 (pathCode s.engine.path) ++
    u8 (barCode s.engine.bar) ++ flag s.engine.faultNoted ++ tagOrZero s.engine.minRun ++
    unlisted (timerName s.engine) ++ tagOrZero s.engine.timer ++ flag s.engine.wanted ++
    decisionBytes (engineDecision s) ++ u8 (healthCode s.link.eu.health) ++ [s.link.eu.flags] ++
    euMeasurementBytes s.link.euMeas ++ be32 s.link.eu.measuredAt) s

/-! ## ENGINE_REARM (R140) -/

/-- The Sequencer after a rearm. -/
def rearm (s : State) : State :=
  engineAct (fun s0 => setEngine .off .rearm
    { s0 with engine := { s0.engine with bar := none, attempt := 0, path := none, faultNoted := false } }) s

/-- R140. -/
def engineRearmAct (s : State) : State × Answer :=
  if s.engine.state = .barred ∧ s.link.eu.health = .present ∧ euFiring s = false then doneWith [] (rearm s)
  else refusedWith .state s

/-! ## Expiries -/

/-- The expiry of the state timer of a state, where that state is present and its timer has run out (R126). -/
def stateTimerEnds (state : EngineState) (act : State → State) (s : State) : State :=
  if s.engine.state = state ∧ expired s.now s.engine.timer = true then engineAct act s else s

/-- The min-run expiry passes in HOLDING (R136). -/
def minRunEnds (s : State) : State :=
  if s.engine.state = .holding ∧ expired s.now s.engine.minRun = true then engineAct (enterStopping .minRun) s else s

/-- ENGINE_READ. -/
def execEngineRead (tag : Byte) (payload : List Byte) (s : State) : Effect :=
  .next (request 0x1F#8 0 tag payload engineReadAct s)

/-- ENGINE_REARM. -/
def execEngineRearm (tag : Byte) (payload : List Byte) (s : State) : Effect :=
  .next (request 0x20#8 0 tag payload engineRearmAct s)

/-- CRANK_LIMIT_EXPIRY (R133). -/
def execCrankLimitExpiry (s : State) : Effect :=
  .next (unlessHeld (stateTimerEnds .cranking (failAttempt .crankLimit .startFailed)) s)

/-- REST_EXPIRY (R134). -/
def execRestExpiry (s : State) : Effect := .next (unlessHeld (stateTimerEnds .resting restEnds) s)

/-- WARM_LIMIT_EXPIRY (R135). -/
def execWarmLimitExpiry (s : State) : Effect :=
  .next (unlessHeld (stateTimerEnds .warming (warmUpEnds .warmLimit)) s)

/-- MIN_RUN_EXPIRY (R136). -/
def execMinRunExpiry (s : State) : Effect := .next (unlessHeld minRunEnds s)

/-- STOP_LIMIT_EXPIRY (R137). -/
def execStopLimitExpiry (s : State) : Effect :=
  .next (unlessHeld (stateTimerEnds .stopping stopLimitEnds) s)

end Sys2Proof.Machine
end

