-- ==== Sys2Proof/Machine/GrantRequests.lean ====
section
/-! DEFINITION. The requests of the Grant Arbiter: GRANT_ASK, GRANT_CONFIRM, GRANT_RELEASE, GRANT_WITHDRAW, PACING_CLEAR,
ARBITER_SET (R53, R54, R58, R60, R62, R63, R66). -/

namespace Sys2Proof.Machine

/-- The index of an auxiliary channel in a request. -/
def channelGiven (payload : List Byte) : Option Nat :=
  if 2 ≤ nat8 payload 0 ∧ nat8 payload 0 ≤ 11 then some (nat8 payload 0) else none

/-! ## GRANT_ASK (R53, R54) -/

/-- The first check of R53 that fails, after those of the ranges. -/
def askRefusal (c : AuxChannel) (s : State) : Option ResultCode :=
  if c.isOpen = false then some .absent
  else if s.run.state = .standby ∨ s.run.state = .winddown then some .state
  else if s.run.state = .limp ∧ c.cls = .deferrable then some .state
  else if c.grant ≠ .none then some .duplicate
  else if c.allowance ≠ 0 ∧ c.allowance ≤ c.used then some .spent
  else if Config.askCapacity ≤ s.arbiter.queue.length then some .full
  else none

/-- An accepted ask joins the tail of the Grant Queue (R53). -/
def joinQueue (channel power : Nat) (s : State) : State :=
  let c := auxAt s channel
  setAux channel { c with grant := .queued }
    { s with arbiter := { s.arbiter with queue := s.arbiter.queue ++ [⟨channel, c.cls, power, s.now⟩] } }

/-- The position of a channel's ask, counting the head as 1. -/
def askPosition (queue : List Ask) (channel : Nat) : Nat :=
  (queue.takeWhile fun ask => decide (ask.channel ≠ channel)).length + 1

/-- The number of older asks of a class before a channel's ask. -/
def olderAsks (queue : List Ask) (channel : Nat) (cls : LoadClass) : Nat :=
  ((queue.takeWhile fun ask => decide (ask.channel ≠ channel)).filter fun ask => decide (ask.cls = cls)).length

/-- R54: DONE with the terms where the ask's own pass granted it, ACCEPTED with the position otherwise. -/
def askAnswer (channel : Nat) (s : State) : State × Answer :=
  let c := auxAt s channel
  match grantTerms c.grant with
  | some terms => doneWith (u16 terms.power ++ u8 (poolCode terms.pool)) s
  | none =>
    acceptedWith (u8 (askPosition s.arbiter.queue channel) ++ u8 (olderAsks s.arbiter.queue channel c.cls)) s

/-- R53: 0.1 to 30.0 kW are 1 to 300 steps. -/
def grantAskAct (payload : List Byte) (s : State) : State × Answer :=
  let power := nat16 payload 1
  match channelGiven payload with
  | none => refusedWith .range s
  | some channel =>
    if power < 1 ∨ 300 < power then refusedWith .range s
    else
      match askRefusal (auxAt s channel) s with
      | some code => refusedWith code s
      | none => askAnswer channel (arbiterAct (fun s0 => pass (joinQueue channel power s0)) s)

/-! ## GRANT_CONFIRM (R60) -/

/-- An OFFERED channel becomes HELD. -/
def confirmGrant (channel : Nat) (terms : Terms) (s : State) : State × Answer :=
  let c := auxAt s channel
  let expiry := exhaustionAt s.now c.allowance c.used terms.power
  doneWith (u16 terms.power ++ u8 (poolCode terms.pool) ++ tagOrZero expiry)
    (setAux channel { c with grant := .held terms s.now expiry } s)

def grantConfirmAct (payload : List Byte) (s : State) : State × Answer :=
  match channelGiven payload with
  | none => refusedWith .range s
  | some channel =>
    if (auxAt s channel).isOpen = false then refusedWith .absent s
    else
      match (auxAt s channel).grant with
      | .offered terms _ => confirmGrant channel terms s
      | .none => refusedWith .late s
      | .queued | .held _ _ _ => refusedWith .state s

/-! ## GRANT_RELEASE, GRANT_WITHDRAW (R62, R63) -/

/-- R62. -/
def grantReleaseAct (payload : List Byte) (s : State) : State × Answer :=
  match channelGiven payload with
  | none => refusedWith .range s
  | some channel =>
    let c := auxAt s channel
    if c.isOpen = false then refusedWith .absent s
    else
      match c.grant with
      | .none => refusedWith .late s
      | .queued => refusedWith .state s
      | .offered _ _ | .held _ _ _ =>
        doneWith (u8 (grantCode c.grant) ++ u16 (usedAt s.now c)) (releaseGrant channel s)

/-- A QUEUED channel's ask leaves the Grant Queue (R63). -/
def withdrawAsk (channel : Nat) (s : State) : State :=
  setAux channel { auxAt s channel with grant := .none }
    { s with arbiter := { s.arbiter with queue := withoutAsk s.arbiter.queue channel } }

/-- R63. -/
def grantWithdrawAct (payload : List Byte) (s : State) : State × Answer :=
  match channelGiven payload with
  | none => refusedWith .range s
  | some channel =>
    if (auxAt s channel).isOpen = true ∧ (auxAt s channel).grant = .queued then
      doneWith (u8 (askPosition s.arbiter.queue channel)) (withdrawAsk channel s)
    else refusedWith .absent s

/-! ## PACING_CLEAR (R66) -/

/-- A channel after PACING_CLEAR. -/
def paced (now : TimeTag) (c : AuxChannel) : AuxChannel :=
  { c with
    used := 0
    grant := match c.grant with
      | .held terms _ _ => .held terms now (exhaustionAt now c.allowance 0 terms.power)
      | .none => .none
      | .queued => .queued
      | .offered terms confirmBy => .offered terms confirmBy }

/-- R66. -/
def pacingClearAct (payload : List Byte) (s : State) : State × Answer :=
  match channelGiven payload with
  | none => refusedWith .range s
  | some channel =>
    let c := auxAt s channel
    if c.isOpen = false then refusedWith .absent s
    else doneWith (u16 (usedAt s.now c)) (setAux channel (paced s.now c) s)

/-! ## ARBITER_SET (R58) -/

/-- An ask as ARBITER_SET returns it. -/
def askBytes (a : Ask) : List Byte := u8 a.channel ++ u8 (classCode a.cls) ++ u16 a.power ++ be32 a.arrival

/-- The Arbiter's state as ARBITER_SET returns it. -/
def arbiterBytes (s : State) : List Byte :=
  u8 (arbiterModeCode s.arbiter.mode) ++ [s.arbiter.pattern] ++ u8 s.arbiter.pointer ++
    u16 s.arbiter.batteryBudget ++ u16 s.arbiter.generationBudget ++
    u16 (grantedSum s.aux .battery) ++ u16 (grantedSum s.aux .generation) ++ u16 (heldSum s.aux) ++
    u8 s.arbiter.queue.length ++ s.arbiter.queue.flatMap askBytes

/-- The mode after a request's mode code: KEEP leaves it. -/
def modeGiven (code : Nat) (held : ArbiterMode) : ArbiterMode :=
  if code = 0 then .fixed else if code = 1 then .weighted else held

/-- The settings of R58 and its pass. -/
def setArbiter (modeCode : Nat) (pattern : Option Byte) (s : State) : State :=
  arbiterAct (fun s0 => pass { s0 with arbiter := { s0.arbiter with
    mode := modeGiven modeCode s0.arbiter.mode
    pattern := pattern.getD s0.arbiter.pattern
    pointer := 1 } }) s

/-- R58: mode KEEP without a pattern only reads. -/
def arbiterSetAct (payload : List Byte) (s : State) : State × Answer :=
  if 2 < nat8 payload 0 ∨ 1 < nat8 payload 1 then refusedWith .range s
  else
    let pattern := if nat8 payload 1 = 1 then some (at8 payload 2) else none
    let after := if nat8 payload 0 = 2 ∧ pattern = none then s else setArbiter (nat8 payload 0) pattern s
    doneWith (arbiterBytes after) after

/-- GRANT_ASK. -/
def execGrantAsk (tag : Byte) (payload : List Byte) (s : State) : Effect :=
  .next (request 0x0D#8 3 tag payload (grantAskAct payload) s)

/-- GRANT_CONFIRM. -/
def execGrantConfirm (tag : Byte) (payload : List Byte) (s : State) : Effect :=
  .next (request 0x0E#8 1 tag payload (grantConfirmAct payload) s)

/-- GRANT_RELEASE. -/
def execGrantRelease (tag : Byte) (payload : List Byte) (s : State) : Effect :=
  .next (request 0x0F#8 1 tag payload (grantReleaseAct payload) s)

/-- GRANT_WITHDRAW. -/
def execGrantWithdraw (tag : Byte) (payload : List Byte) (s : State) : Effect :=
  .next (request 0x10#8 1 tag payload (grantWithdrawAct payload) s)

/-- PACING_CLEAR. -/
def execPacingClear (tag : Byte) (payload : List Byte) (s : State) : Effect :=
  .next (request 0x11#8 1 tag payload (pacingClearAct payload) s)

/-- ARBITER_SET. -/
def execArbiterSet (tag : Byte) (payload : List Byte) (s : State) : Effect :=
  .next (request 0x12#8 3 tag payload (arbiterSetAct payload) s)

end Sys2Proof.Machine
end

