-- ==== Sys2Proof/Machine/Solve.lean ====
section
/-! DEFINITION. The computation of one solve: from a snapshot to its split record (06_the_split_solve.md, R103 to R121).
Torques are in steps of 0.5 N·m, powers in steps of 0.1 kW. -/

namespace Sys2Proof.Machine

/-! ## What the snapshot permits (R103) -/

/-- An engine mode is permitted only in ACTIVE and LIMP besides (R103). -/
def enginesAllowed (n : Snapshot) : Bool := decide (n.runState = .active ∨ n.runState = .limp)

/-- The row of the snapshot's active zone. -/
def zoneRow (n : Snapshot) : ModeSet := tableRow n.table n.context.zone

def assistPermitted (n : Snapshot) : Bool := (zoneRow n).assist && enginesAllowed n

def chargePermitted (n : Snapshot) : Bool := (zoneRow n).charge && enginesAllowed n

def engineOnlyPermitted (n : Snapshot) : Bool := (zoneRow n).engineOnly && enginesAllowed n

def parkedChargePermitted (n : Snapshot) : Bool := (zoneRow n).parkedCharge && enginesAllowed n

/-! ## Charge latch (R105) -/

/-- The target of the zone context while charge-ahead is ACTIVE, the active floor otherwise. -/
def chargeTarget (n : Snapshot) : Nat :=
  if n.context.chargeAhead then n.context.target.getD n.context.floor else n.context.floor

/-- R105: the new latch, from the SOC and the latch held. -/
def newLatch (n : Snapshot) : Bool :=
  if qtyLt n.soc (chargeTarget n) || qtyLe n.soc n.context.floor then true
  else if qtyGe n.soc (chargeTarget n + 10) then false
  else n.latch

/-! ## Traction and brake taken (R109) -/

/-- The DEPLETION TEST. -/
def depletion (n : Snapshot) : Bool := decide (n.context.zone = .zeroEmission) && qtyLe n.soc n.context.floor

/-- TRACTION_TAKEN of a solve. -/
def solveTraction (n : Snapshot) : Computed :=
  tractionTaken n.traction (decide (n.runState = .limp) || depletion n) n.limpCap

/-- BRAKE_TAKEN of a solve: performed where the mode selection reaches step 2, that is, not in LIMP. -/
def solveBrake (n : Snapshot) : Computed :=
  if n.runState = .limp then .notPerformed else brakeTaken n.brake

/-! ## Mode selection (R106, R107) -/

/-- The EV TEST for a traction taken: the traction power is compared exactly (R107). -/
def evTest (n : Snapshot) (traction : Int) : Bool :=
  qtyGe n.motoring traction &&
    match n.shaftSpeed, n.discharge with
    | some speed, some limit =>
      decide (traction * speed * 5 + Int.ofNat n.batterySum * 9549 ≤ limit * 9549)
    | _, _ => false

/-- Steps 3 to 8 of R106. -/
def drivingMode (n : Snapshot) (traction : Int) (latch : Bool) : SplitMode :=
  if qtyLt n.shaftSpeed 300 && decide (traction = 0) && n.context.dwell && parkedChargePermitted n && latch then
    .parkedCharge
  else if latch && chargePermitted n then .charge
  else if evTest n traction then .ev
  else if assistPermitted n then .assist
  else if decide (n.motoring = none ∨ n.motoring = some 0) && engineOnlyPermitted n then .engineOnly
  else .ev

/-- R106. -/
def selectMode (n : Snapshot) (traction brake : Int) (latch : Bool) : SplitMode :=
  if n.runState = .limp then .limp
  else if 0 < brake ∧ traction = 0 then (if (zoneRow n).regen then .regen else .ev)
  else drivingMode n traction latch

/-! ## The engine in the split (R108, R110) -/

/-- The engine split of LIMP: the EV test is not met and ASSIST is permitted (R110). -/
def limpEngineSplit (n : Snapshot) (traction : Int) : Bool := !evTest n traction && assistPermitted n

/-- ENGINE_WANTED (R108). -/
def engineWanted (n : Snapshot) (mode : SplitMode) (traction : Int) : Bool :=
  match mode with
  | .assist | .charge | .engineOnly | .parkedCharge => true
  | .limp => limpEngineSplit n traction
  | .ev | .regen => false

/-- The engine is AVAILABLE in RUNNING and WARMING (R108). -/
def engineAvailable (n : Snapshot) : Bool := decide (n.engine = .running ∨ n.engine = .warming)

/-- The cap at WARM_CAP while WARMING (R114). WARM_CAP is in whole N·m. -/
def warmCapped (n : Snapshot) (wanted : Int) : Int :=
  if n.engine = .warming ∧ Int.ofNat (2 * n.warmCap) < wanted then Int.ofNat (2 * n.warmCap) else wanted

/-! ## Apportioning (R110 to R115) -/

/-- The shares of a solve with the computation that came before them; a share not performed is `none` (R115). -/
structure Shares where
  before : Computed
  engine : Option Computed
  mg : Option Computed
  delivers : Bool
  deriving DecidableEq, Repr

/-- R111: as in EV, and any fallback of R108. -/
def evShares (n : Snapshot) (traction : Int) : Shares :=
  ⟨.notPerformed, none, some (mgShare traction n.motoring n.generating), true⟩

/-- R111. -/
def regenShares (n : Snapshot) (brake : Int) : Shares :=
  let regen := regenTorque brake n.generating n.chargeLimit n.shaftSpeed n.trapping
  ⟨regen, none, some (mgShare regen.value n.motoring n.generating), true⟩

/-- Both shares with the fit (R115). -/
def fittedShares (n : Snapshot) (before : Computed) (wantedEngine wantedMg : Int) (delivers : Bool) : Shares :=
  let fitted := fitShares n.fitMode wantedEngine wantedMg n.available n.motoring n.generating
  ⟨before, some fitted.1, some fitted.2, delivers⟩

/-- R112, ASSIST and the engine split of LIMP. -/
def assistShares (n : Snapshot) (traction : Int) : Shares :=
  let base := Int.ofNat n.engineBaseTorque
  let engine := warmCapped n (if traction < base then traction else base)
  fittedShares n .notPerformed engine (traction - engine) true

/-- R112, ENGINE_ONLY. -/
def engineOnlyShares (n : Snapshot) (traction : Int) : Shares :=
  ⟨.notPerformed, some (engineShare (warmCapped n traction) n.available), none, true⟩

/-- R113, CHARGE. -/
def chargeShares (n : Snapshot) (traction : Int) : Shares :=
  let charge := chargeTorque n.chargePower n.shaftSpeed n.trapping
  let engine := warmCapped n (traction + charge.value)
  fittedShares n charge engine (traction - engine) true

/-- R113, PARKED_CHARGE. -/
def parkedShares (n : Snapshot) : Shares :=
  let charge := chargeTorque n.parkedChargePower n.engineSpeed n.trapping
  let engine := warmCapped n charge.value
  fittedShares n charge engine (-engine) false

/-- The apportioning of a mode; with the engine wanted and not available it falls back to EV (R108). -/
def apportion (n : Snapshot) (mode : SplitMode) (traction brake : Int) (wanted : Bool) : Shares :=
  if wanted && !engineAvailable n then evShares n traction
  else
    match mode with
    | .ev => evShares n traction
    | .regen => regenShares n brake
    | .assist => assistShares n traction
    | .engineOnly => engineOnlyShares n traction
    | .charge => chargeShares n traction
    | .parkedCharge => parkedShares n
    | .limp => if wanted then assistShares n traction else evShares n traction

/-- R116. -/
def clutchRequest (n : Snapshot) (mode : SplitMode) (wanted : Bool) : Clutch :=
  if !wanted then .opened
  else if mode = .parkedCharge then .closed
  else if qtyGe n.shaftSpeed 300 then .closed
  else .slip

/-! ## The record (R117 to R121) -/

/-- The result of a computation, 0 with no condition where it is not performed. -/
def computedOr (c : Option Computed) : Computed := c.getD .notPerformed

/-- R119: performed while the engine is RUNNING and the clutch request is CLOSED. -/
def solveGeneration (n : Snapshot) (clutch : Clutch) (engineTorque : Int) : Computed :=
  if n.engine = .running ∧ clutch = .closed then generationBudget engineTorque n.available n.engineSpeed
  else .notPerformed

/-- R117: performed where MG_SHARE is. -/
def solveMgPower (n : Snapshot) (mg : Option Computed) : Computed :=
  match mg with
  | some share => mgPower share.value n.shaftSpeed
  | none => .notPerformed

/-- The record of a solve, with serial 0 until publication gives it one (R121, R122). -/
def solveRecord (n : Snapshot) : SplitRecord :=
  let traction := solveTraction n
  let brake := solveBrake n
  let latch := newLatch n
  let mode := selectMode n traction.value brake.value latch
  let wanted := engineWanted n mode traction.value
  let shares := apportion n mode traction.value brake.value wanted
  let clutch := clutchRequest n mode wanted
  let engine := computedOr shares.engine
  let mg := computedOr shares.mg
  let delivered := if shares.delivers then tractionDelivered engine.value mg.value else .notPerformed
  let electrical := solveMgPower n shares.mg
  let battery := expectedBatteryPower electrical.value n.batterySum n.discharge n.chargeLimit
  let batteryRoom := batteryBudget n.svc electrical.value n.discharge
  let generationRoom := solveGeneration n clutch engine.value
  let union := [traction, brake, shares.before, engine, mg, delivered, electrical, battery, batteryRoom,
    generationRoom].foldl (fun c d => c.union d.conditions) Conditions.empty
  { serial := 0#32
    tag := n.tag
    runState := n.runState
    zone := n.context.zone
    mode := mode
    engineWanted := wanted
    clutch := clutch
    engineTorque := engine.value
    mgTorque := mg.value
    tractionAsked := n.traction.getD 0
    tractionDelivered := delivered.value
    batteryPower := battery.value
    batteryBudget := batteryRoom.value
    generationBudget := generationRoom.value
    conditions := union
    chargeLatch := latch }

end Sys2Proof.Machine
end

