-- ==== Sys2Proof/Machine/SolveOps.lean ====
section
/-! DEFINITION. The completion of a solve: discard or publication, and what the Grant Arbiter and the Engine Sequencer take
from the record (R12 to R14, R100, R102, R122, R123). -/

namespace Sys2Proof.Machine

/-- R102: the run state is STANDBY now or in the snapshot. -/
def discarded (n : Snapshot) (s : State) : Bool :=
  decide (s.run.state = .standby ∨ n.runState = .standby)

/-- The serial after a serial: after 4294967295 comes 1, since 0 is the empty record's (R122). -/
def nextSerial (serial : Word32) : Word32 := if serial = 0xFFFFFFFF#32 then 1#32 else serial + 1#32

/-! ## Holds (R13, R14) -/

def holdOfName (h : Holds) : HoldName → Hold
  | .overflow => h.overflow
  | .underflow => h.underflow
  | .divideCheck => h.divideCheck
  | .invalid => h.invalid

def withHold (name : HoldName) (hold : Hold) (h : Holds) : Holds :=
  match name with
  | .overflow => { h with overflow := hold }
  | .underflow => { h with underflow := hold }
  | .divideCheck => { h with divideCheck := hold }
  | .invalid => { h with invalid := hold }

def carries (c : Conditions) : HoldName → Bool
  | .overflow => c.overflow
  | .underflow => c.underflow
  | .divideCheck => c.divideCheck
  | .invalid => c.invalid

/-- The order in which the entries of one publication are pushed (R14). -/
def holdNames : List HoldName := [.overflow, .underflow, .divideCheck, .invalid]

/-- R13: each hold whose condition the record carries is SET with its serial. -/
def updateHolds (r : SplitRecord) (h : Holds) : Holds :=
  holdNames.foldl (fun acc name => if carries r.conditions name then withHold name ⟨true, r.serial⟩ acc else acc) h

/-- HOLD_SET for a hold that the publication takes from CLEAR to SET (R14), with the record's time tag (log 26). -/
def pushHoldSet (r : SplitRecord) (before : Holds) (s : State) (name : HoldName) : State :=
  if carries r.conditions name && !(holdOfName before name).isSet then
    pushAt r.tag .holdSet (holdCode name) r.serial s
  else s

/-! ## The depletion note (R123) -/

/-- The depletion note after a publication, and ZONE_DEPLETED where due (R123). -/
def noteDepletion (n : Snapshot) (s : State) : State :=
  if s.solver.depletion = some n.context.segmentId then s
  else if depletion n then
    push .zoneDepleted n.context.segmentId (BitVec.ofInt 32 (n.soc.getD 0))
      { s with solver := { s.solver with depletion := some n.context.segmentId } }
  else { s with solver := { s.solver with depletion := none } }

/-! ## Publication and completion (R100, R122) -/

/-- Steps 1 to 5 of R122. -/
def publish (n : Snapshot) (r : SplitRecord) (s : State) : State :=
  let published := { s with solver := { s.solver with
    record := r
    ofThisDrive := true
    holds := updateHolds r s.solver.holds
    latch := r.chargeLatch } }
  let held := if s.items.trapping then holdNames.foldl (pushHoldSet r s.solver.holds) published else published
  noteDepletion n held

/-- REPEAT is acted on: a new solve with a fresh snapshot, or IDLE (R100). -/
def repeatOrIdle (s : State) : State :=
  { s with solver := { s.solver with
    solve := if s.solver.repeatMark then some (snapshotOf s) else none, repeatMark := false } }

/-- The record of a solve with the serial its publication gives it. -/
def recordToPublish (n : Snapshot) (s : State) : SplitRecord :=
  { solveRecord n with serial := nextSerial s.solver.record.serial }

/-- The completion of the solve in flight: the Solver's act first, then the Arbiter and the Sequencer take the record
(R100, R122, log 7). -/
def completeSolve (n : Snapshot) (s : State) : State :=
  if discarded n s then repeatOrIdle s
  else
    let r := recordToPublish n s
    engineTake r (arbiterTake r (repeatOrIdle (publish n r s)))

end Sys2Proof.Machine
end

