-- ==== Sys2Proof/Machine/HoldsRequests.lean ====
section
/-! DEFINITION. The requests on the holds: HOLDS_TEST and HOLDS_CLEAR (R15, R16). -/

namespace Sys2Proof.Machine

/-- A hold becomes CLEAR with setting serial 0. -/
def clearHold (name : HoldName) (s : State) : State :=
  { s with solver := { s.solver with holds := withHold name .clear s.solver.holds } }

/-- R15. -/
def holdsTestAct (payload : List Byte) (s : State) : State × Answer :=
  match holdOf (nat8 payload 0) with
  | none => refusedWith .range s
  | some name =>
    let found := holdOfName s.solver.holds name
    doneWith (flag found.isSet ++ be32 found.serial) (if found.isSet then clearHold name s else s)

/-- A hold named in a set of holds, by its bit. -/
def namesHold (set : Byte) (name : HoldName) : Bool := set.getLsbD (holdCode name)

/-- The named holds that are SET, as a set. -/
def setHoldsCode (set : Byte) (h : Holds) : Conditions where
  overflow := namesHold set .overflow && h.overflow.isSet
  underflow := namesHold set .underflow && h.underflow.isSet
  divideCheck := namesHold set .divideCheck && h.divideCheck.isSet
  invalid := namesHold set .invalid && h.invalid.isSet

/-- R16: bits 4 to 7 name no hold. -/
def holdsClearAct (payload : List Byte) (s : State) : State × Answer :=
  let set := at8 payload 0
  if set &&& 0xF0#8 ≠ 0#8 then refusedWith .range s
  else
    doneWith (u8 (conditionsCode (setHoldsCode set s.solver.holds)))
      (holdNames.foldl (fun acc name => if namesHold set name then clearHold name acc else acc) s)

/-- HOLDS_TEST. -/
def execHoldsTest (tag : Byte) (payload : List Byte) (s : State) : Effect :=
  .next (request 0x1C#8 1 tag payload (holdsTestAct payload) s)

/-- HOLDS_CLEAR. -/
def execHoldsClear (tag : Byte) (payload : List Byte) (s : State) : Effect :=
  .next (request 0x1D#8 1 tag payload (holdsClearAct payload) s)

end Sys2Proof.Machine
end

