-- ==== Sys2Proof/Machine/HorizonRequests.lean ====
section
/-! DEFINITION. The requests of the Route Horizon: PLAN_ORGANISE, SEGMENT_ADD, PAGE_CLEAR, PAGE_SWAP, POSITION_FIX,
HORIZON_READ, PAYLOAD_SET, CONSUMPTION_SET (R73 to R79, R85, R88, R89, R98). -/

namespace Sys2Proof.Machine

/-! ## PLAN_ORGANISE (R73) -/

/-- The store after PLAN_ORGANISE: every list empty, page A active in PAGED, the position at 0. -/
def organised (paged : Bool) (h : Horizon) : Horizon :=
  { h with
    paged := paged, pageA := [], pageB := [], single := [], activeA := paged || h.activeA, swapPending := false,
    distance := 0, carry := 0 }

/-- HORIZON_EMPTY when the active list went from holding segments to holding none (R84). -/
def pushIfEmptied (before : Horizon) (cause : EmptyCause) (s : State) : State :=
  if activeList before = [] then s else pushHorizonEmpty (activeName before) cause s

/-- R73: the run state is checked before the value. -/
def planOrganiseAct (payload : List Byte) (s : State) : State × Answer :=
  if s.run.state ≠ .standby then refusedWith .state s
  else if 1 < nat8 payload 0 then refusedWith .range s
  else
    doneWith (u8 (nat8 payload 0))
      (trackerEnd (pushIfEmptied s.horizon .organised (setHorizon (organised (nat8 payload 0 = 0) s.horizon) s)))

/-! ## SEGMENT_ADD (R75, R76) -/

/-- The store with a record at the tail of the loading list; a segment that becomes active is entered at 0. -/
def appended (g : Segment) (h : Horizon) : Horizon :=
  let name := loadingName h
  let joined := setListNamed name (listNamed h name ++ [g]) h
  if name = .single ∧ h.single = [] then { joined with distance := 0, carry := 0 } else joined

/-- R76: the Tracker acts in SINGLE and while a swap is pending. -/
def addSegment (g : Segment) (s : State) : State :=
  let added := setHorizon (appended g s.horizon) s
  if s.horizon.paged = true ∧ s.horizon.swapPending = false then added else trackerEnd added

/-- R75, checks 2 and 3. -/
def segmentRefusal (g : Segment) (h : Horizon) : Option ResultCode :=
  let loading := listNamed h (loadingName h)
  if listCapacity (loadingName h) ≤ loading.length then some .full
  else
    match loading.getLast? with
    | some tail => if g.id ≤ tail.id then some .order else none
    | none => none

/-- R75. -/
def segmentAddAct (payload : List Byte) (s : State) : State × Answer :=
  match segmentOf payload with
  | none => refusedWith .range s
  | some g =>
    match segmentRefusal g s.horizon with
    | some code => refusedWith code s
    | none =>
      let name := loadingName s.horizon
      let held := (listNamed s.horizon name).length + 1
      doneWith (u8 (listCode name) ++ u8 held ++ u8 held) (addSegment g s)

/-! ## PAGE_CLEAR, PAGE_SWAP (R77 to R79) -/

/-- R77, PAGED: the standby page is emptied, and a pending swap cancelled. -/
def clearStandby (s : State) : State :=
  let cleared := setHorizon { setListNamed (loadingName s.horizon) [] s.horizon with swapPending := false } s
  if s.horizon.swapPending then trackerEnd cleared else cleared

/-- R77, SINGLE: the one list is emptied. -/
def clearSingle (s : State) : State :=
  trackerEnd (pushIfEmptied s.horizon .cleared
    (setHorizon { s.horizon with single := [], distance := 0, carry := 0 } s))

/-- R77. -/
def pageClearAct (s : State) : State × Answer :=
  doneWith (u8 (listNamed s.horizon (loadingName s.horizon)).length)
    (if s.horizon.paged then clearStandby s else clearSingle s)

/-- R79: the AT_BOUNDARY form. -/
def swapAtBoundary (s : State) : State × Answer :=
  if activeList s.horizon = [] then doneWith [] (trackerEnd (swapNow .atBoundary s))
  else if s.horizon.swapPending then acceptedWith [] s
  else acceptedWith [] (trackerEnd (setHorizon { s.horizon with swapPending := true } s))

/-- R78. -/
def pageSwapAct (payload : List Byte) (s : State) : State × Answer :=
  match swapFormOf (nat8 payload 0) with
  | none => refusedWith .range s
  | some form =>
    if s.horizon.paged = false then refusedWith .state s
    else if standbyList s.horizon = [] then refusedWith .absent s
    else
      match form with
      | .immediate => doneWith [] (trackerEnd (swapNow .immediate s))
      | .atBoundary => swapAtBoundary s

/-! ## POSITION_FIX (R85) -/

/-- The segments before the named one. -/
def skippedBy (id : Nat) (l : List Segment) : List Segment := l.takeWhile fun g => decide (g.id ≠ id)

/-- The named segment and those behind it. -/
def keptFrom (id : Nat) (l : List Segment) : List Segment := l.dropWhile fun g => decide (g.id ≠ id)

/-- The fix: the skipped segments leave, and the distance becomes the one given. -/
def fixPosition (id distance : Nat) (s : State) : State :=
  let kept := setHorizon { setActiveList (keptFrom id (activeList s.horizon)) s.horizon with
    distance := distance, carry := 0 } s
  trackerEnd ((skippedBy id (activeList s.horizon)).foldl (pushSegmentDone .skipped) kept)

/-- R85. -/
def positionFixAct (payload : List Byte) (s : State) : State × Answer :=
  let id := nat16 payload 0
  let distance := nat16 payload 2
  if id = 0 then refusedWith .range s
  else
    match keptFrom id (activeList s.horizon) with
    | [] => refusedWith .absent s
    | g :: _ =>
      if g.length ≤ distance then refusedWith .range s
      else doneWith (u8 (skippedBy id (activeList s.horizon)).length) (fixPosition id distance s)

/-! ## HORIZON_READ (R98) -/

/-- The list belongs to the organisation held. -/
def listBelongs (h : Horizon) : ListName → Bool
  | .single => !h.paged
  | _ => h.paged

/-- The zone context as HORIZON_READ returns it. -/
def contextBytes (c : ZoneContext) : List Byte :=
  u16 c.segmentId ++ u8 (zoneCode c.zone) ++ flag c.dwell ++ u16 c.floor ++
    unlisted (if c.chargeAhead then .chargeAheadActive else .chargeAheadInactive) ++ optional 2 (c.target.map u16) ++
    flag c.short

/-- The consumption table: grades −3 to +3, stop energy, lift energy. -/
def consumptionBytes (c : Consumption) : List Byte :=
  u16 c.m3 ++ u16 c.m2 ++ u16 c.m1 ++ u16 c.g0 ++ u16 c.p1 ++ u16 c.p2 ++ u16 c.p3 ++ u16 c.stop ++ u16 c.lift

/-- The fields of HORIZON_READ after the record asked for. The active page and the counts of the lists that the organisation
does not hold are sent as 0, with no presence byte (DESIGN CHOICE, log 9). -/
def horizonBytes (h : Horizon) : List Byte :=
  flag (!h.paged) ++ flag (h.paged && !h.activeA) ++ u8 h.pageA.length ++ u8 h.pageB.length ++ u8 h.single.length ++
    flag h.swapPending ++ u16 (((activeList h).head?.map (·.id)).getD 0) ++ u16 h.distance ++ u8 h.carry ++
    contextBytes h.context ++ u16 h.reserve ++ optional 4 (h.runDistance.map u32) ++ u8 h.payloadClass ++
    consumptionBytes h.consumption

/-- R98: index 0 asks for no record. -/
def horizonReadAct (payload : List Byte) (s : State) : State × Answer :=
  match listOf (nat8 payload 0) with
  | none => refusedWith .range s
  | some name =>
    let index := nat8 payload 1
    let l := listNamed s.horizon name
    if listBelongs s.horizon name = false ∨ listCapacity name < index then refusedWith .range s
    else if l.length < index then refusedWith .absent s
    else
      let asked := if index = 0 then none else l[index - 1]?
      doneWith (optional 12 (asked.map segmentBytes) ++ horizonBytes s.horizon) s

/-! ## PAYLOAD_SET, CONSUMPTION_SET (R88, R89) -/

/-- R88. -/
def payloadSetAct (payload : List Byte) (s : State) : State × Answer :=
  let cls := nat8 payload 0
  if 4 < cls then refusedWith .range s
  else
    doneWith (u8 cls)
      (if cls = s.horizon.payloadClass then s
       else trackerEnd (setHorizon { s.horizon with payloadClass := cls } s))

/-- The nine entries of a CONSUMPTION_SET. -/
def consumptionGiven (p : List Byte) : Consumption :=
  ⟨nat16 p 0, nat16 p 2, nat16 p 4, nat16 p 6, nat16 p 8, nat16 p 10, nat16 p 12, nat16 p 14, nat16 p 16⟩

/-- Every entry is within its range (R89). -/
def consumptionInRange (c : Consumption) : Bool :=
  decide (c.m3 ≤ 2000 ∧ c.m2 ≤ 2000 ∧ c.m1 ≤ 2000 ∧ c.g0 ≤ 2000 ∧ c.p1 ≤ 2000 ∧ c.p2 ≤ 2000 ∧ c.p3 ≤ 2000 ∧
    c.stop ≤ 500 ∧ c.lift ≤ 500)

/-- R89. -/
def consumptionSetAct (payload : List Byte) (s : State) : State × Answer :=
  if s.run.state ≠ .standby then refusedWith .state s
  else if consumptionInRange (consumptionGiven payload) then
    doneWith [] (trackerEnd (setHorizon { s.horizon with consumption := consumptionGiven payload } s))
  else refusedWith .range s

/-- PLAN_ORGANISE. -/
def execPlanOrganise (tag : Byte) (payload : List Byte) (s : State) : Effect :=
  .next (request 0x13#8 1 tag payload (planOrganiseAct payload) s)

/-- SEGMENT_ADD. -/
def execSegmentAdd (tag : Byte) (payload : List Byte) (s : State) : Effect :=
  .next (request 0x14#8 12 tag payload (segmentAddAct payload) s)

/-- PAGE_CLEAR. -/
def execPageClear (tag : Byte) (payload : List Byte) (s : State) : Effect :=
  .next (request 0x15#8 0 tag payload pageClearAct s)

/-- PAGE_SWAP. -/
def execPageSwap (tag : Byte) (payload : List Byte) (s : State) : Effect :=
  .next (request 0x16#8 1 tag payload (pageSwapAct payload) s)

/-- POSITION_FIX. -/
def execPositionFix (tag : Byte) (payload : List Byte) (s : State) : Effect :=
  .next (request 0x17#8 4 tag payload (positionFixAct payload) s)

/-- HORIZON_READ. -/
def execHorizonRead (tag : Byte) (payload : List Byte) (s : State) : Effect :=
  .next (request 0x18#8 2 tag payload (horizonReadAct payload) s)

/-- PAYLOAD_SET. -/
def execPayloadSet (tag : Byte) (payload : List Byte) (s : State) : Effect :=
  .next (request 0x19#8 1 tag payload (payloadSetAct payload) s)

/-- CONSUMPTION_SET. -/
def execConsumptionSet (tag : Byte) (payload : List Byte) (s : State) : Effect :=
  .next (request 0x1A#8 18 tag payload (consumptionSetAct payload) s)

end Sys2Proof.Machine
end

