-- ==== Sys2Proof/Machine/LinkOps.lean ====
section
/-! DEFINITION. The Unit Link Controller (08_the_unit_link.md, R146 to R171): unit and lane records, order records,
transactions, reports and frames. -/

namespace Sys2Proof.Machine

/-! ## Unit records (R146) -/

def unitRecord (l : Link) : UnitId → UnitRecord
  | .miu => l.miu
  | .eu => l.eu
  | .bu => l.bu
  | .acu => l.acu

def withUnit (u : UnitId) (r : UnitRecord) (l : Link) : Link :=
  match u with
  | .miu => { l with miu := r }
  | .eu => { l with eu := r }
  | .bu => { l with bu := r }
  | .acu => { l with acu := r }

/-- One unit record changed. -/
def setUnit (u : UnitId) (change : UnitRecord → UnitRecord) (s : State) : State :=
  { s with link := withUnit u (change (unitRecord s.link u)) s.link }

/-- Every measurement of a unit INVALID (R1); the time tag stays (log 23). -/
def invalidate (u : UnitId) (s : State) : State :=
  match u with
  | .miu => { s with link := { s.link with miuMeas := .invalid } }
  | .eu => { s with link := { s.link with euMeas := .invalid } }
  | .bu => { s with link := { s.link with buMeas := .invalid } }
  | .acu => { s with link := { s.link with acuDraw := none } }

/-- A counter or count of the link rises by one and stays at 65535 (R146, R156). -/
def raise (n : Nat) : Nat := if n < Config.counterMax then n + 1 else n

def countersOf (r : UnitRecord) : LaneId → LaneCounters
  | .a => r.onA
  | .b => r.onB

/-- A unit's counters for one lane changed. -/
def count (u : UnitId) (lane : LaneId) (change : LaneCounters → LaneCounters) (s : State) : State :=
  setUnit u (fun r =>
    match lane with
    | .a => { r with onA := change r.onA }
    | .b => { r with onB := change r.onB }) s

/-! ## Lanes (R149 to R152) -/

def otherLane : LaneId → LaneId
  | .a => .b
  | .b => .a

def laneRecordOf (l : Link) : LaneId → Lane
  | .a => l.laneA
  | .b => l.laneB

def withLane (lane : LaneId) (r : Lane) (l : Link) : Link :=
  match lane with
  | .a => { l with laneA := r }
  | .b => { l with laneB := r }

/-- USABLE: GOOD or SUSPECT (R149). -/
def usable (l : Link) (lane : LaneId) : Bool :=
  decide ((laneRecordOf l lane).state = .good ∨ (laneRecordOf l lane).state = .suspect)

/-- LINK_DOWN's condition: both lanes FAILED or ABSENT (R152). -/
def linkDown (l : Link) : Bool := !usable l .a && !usable l .b

/-- LANE_STATE: new state, state left, cause (R150). -/
def pushLane (lane : LaneId) (new left : LaneState) (cause : LaneCause) (s : State) : State :=
  push .laneState (laneCode lane) (detail4 (laneStateCode new) (laneStateCode left) (laneCauseCode cause) 0) s

/-- A lane takes a new record: LANE_STATE, then the beginning or the end of LINK_DOWN (R150, R152). -/
def changeLane (lane : LaneId) (new : Lane) (cause : LaneCause) (s : State) : State :=
  let changed := pushLane lane new.state (laneRecordOf s.link lane).state cause
    { s with link := withLane lane new s.link }
  if linkDown changed.link && !linkDown s.link then causeBegins .linkDown changed
  else if !linkDown changed.link && linkDown s.link then causeEnds .linkDown changed
  else changed

/-- A lane is FAULTED (R150). -/
def faultLane (lane : LaneId) (cause : LaneCause) (s : State) : State :=
  let r := laneRecordOf s.link lane
  match r.state with
  | .good => changeLane lane { r with state := .suspect, clean := 0 } cause s
  | .suspect => changeLane lane { r with state := .failed } cause s
  | .failed | .absent => s

/-- A transmission cut off makes a GOOD or SUSPECT lane FAILED (R150, R161). -/
def cutLane (lane : LaneId) (s : State) : State :=
  if usable s.link lane then
    changeLane lane { laneRecordOf s.link lane with state := .failed } .transmitLimit s
  else s

/-! ## The transaction's memory of its lanes (R150, R151) -/

def txnLane (t : Txn) : LaneId → TxnLane
  | .a => t.onA
  | .b => t.onB

def withTxnLane (t : Txn) (lane : LaneId) (m : TxnLane) : Txn :=
  match lane with
  | .a => { t with onA := m }
  | .b => { t with onB := m }

/-- An attempt on the transaction's lane was not clean. -/
def dirtyTxn (t : Txn) : Txn := withTxnLane t t.lane { txnLane t t.lane with dirty := true }

/-- An attempt on the transaction's lane ended silent. -/
def silentTxn (t : Txn) : Txn := withTxnLane t t.lane { txnLane t t.lane with dirty := true, silent := true }

/-- The attempt begins on a lane. -/
def useLane (t : Txn) (lane : LaneId) : Txn :=
  withTxnLane { t with lane := lane, phase := .sending } lane { txnLane t lane with used := true }

/-- The clean run count of one lane is judged at the end of a transaction (R151). -/
def judgeClean (lane : LaneId) (m : TxnLane) (s : State) : State :=
  let r := laneRecordOf s.link lane
  if m.used && m.suspect && decide (r.state = .suspect) then
    if m.dirty then { s with link := withLane lane { r with clean := 0 } s.link }
    else if r.clean + 1 < Config.cleanRun then
      { s with link := withLane lane { r with clean := r.clean + 1 } s.link }
    else changeLane lane { r with state := .good, clean := 0 } .cleanRun s
  else s

/-! ## Order records (R157, R158, R190) -/

/-- MIU order body: mode, torque. CRANK_TORQUE is in whole N·m. -/
def miuBody (s : State) : List Byte :=
  let r := effectiveRecord s
  if (engineDecision s).miuCranks then u8 (miuModeCode .crank) ++ u16 (2 * s.items.crankTorque)
  else if !s.solver.ofThisDrive then u8 (miuModeCode .standby) ++ i16 0
  else
    u8 (miuModeCode (match r.mode with
      | .regen => .regen
      | .parkedCharge => .parkCharge
      | .ev | .assist | .charge | .engineOnly | .limp => .drive)) ++ i16 r.mgTorque

/-- EU order body: request, path, engine torque, clutch, speed presence, PARKED_CHARGE_SPEED. -/
def euBody (s : State) : List Byte :=
  let d := engineDecision s
  let parked := s.solver.ofThisDrive && decide (s.solver.record.mode = .parkedCharge)
  u8 (euRequestCode d.request) ++ u8 (pathCode d.path) ++ i16 d.torque ++ u8 (clutchCode d.clutch) ++
    (if parked then flag true ++ u16 s.items.parkedChargeSpeed else flag false ++ u16 0)

/-- The contactor of the BU order: CLOSE in ACTIVE and LIMP while SVC is not asserted. -/
def contactorClosed (s : State) : Bool := driving s && !s.lines.svc.level

/-- BU order body: contactor, expected battery power. -/
def buBody (s : State) : List Byte := flag (contactorClosed s) ++ i16 (effectiveRecord s).batteryPower

/-- The permit list: channel and granted power of each HELD channel, the list beginning at the channel number given. -/
def permitList : Nat → List AuxChannel → List (Nat × Nat)
  | _, [] => []
  | first, c :: rest =>
    match c.grant with
    | .held terms _ _ => (first, terms.power) :: permitList (first + 1) rest
    | _ => permitList (first + 1) rest

/-- ACU order body: the count, then channel and granted power of each HELD grant. -/
def acuBody (s : State) : List Byte :=
  let permits := permitList 2 s.aux
  u8 permits.length ++ permits.flatMap fun p => u8 p.1 ++ u16 p.2

/-- An ordinary frame's order body (R158). -/
def orderBody (s : State) : UnitId → List Byte
  | .miu => miuBody s
  | .eu => euBody s
  | .bu => buBody s
  | .acu => acuBody s

/-- A quiet frame's order body (R158, R171). -/
def quietBody : UnitId → List Byte
  | .miu => u8 (miuModeCode .standby) ++ i16 0
  | .eu => u8 (euRequestCode .stop) ++ u8 (pathCode none) ++ i16 0 ++ u8 (clutchCode .opened) ++ flag false ++ u16 0
  | .bu => flag false ++ i16 0
  | .acu => u8 0

def typeOrder : Nat := 1
def typeReport : Nat := 2
def typeCopy : Nat := 3
def typeProbe : Nat := 4

/-- The body of a record: what stands between its head and its check value. -/
def recordBody (record : List Byte) : List Byte := (record.drop 4).take (record.length - 6)

/-- The PEER_COPY of an order to a destination: the source's address and body, the source's sequence number (R168). -/
def copyRecord (destination : UnitId) (order : List Byte) : List Byte :=
  laneRecord (unitCode destination) typeCopy (at8 order 2) (at8 order 0 :: recordBody order)

/-- The PROBE record (R170, R190). -/
def probeRecord : List Byte := laneRecord 0 typeProbe 0#8 []

/-! ## Frames (R154 to R159) -/

/-- The frame state while a frame does some work. -/
def inFrame (quiet : Bool) (work : FrameWork) (unitsLeft : List UnitId) (s : State) : State :=
  { s with link := { s.link with frame := .inFrame ⟨quiet, work, unitsLeft⟩ } }

/-- The frame ends; the completion of a quiet frame is reported to Run Control (R155, R171). -/
def endFrame (quiet : Bool) (s : State) : State :=
  let waiting := { s with link := { s.link with frame := .waiting } }
  if quiet then quietFrameDone waiting else waiting

/-- The loss is handed on (R166). -/
def handLoss (u : UnitId) (s : State) : State :=
  match u with
  | .miu => trigger (causeBegins .miuLost s)
  | .eu => trigger (engineLost s)
  | .bu => trigger (causeBegins .buLost s)
  | .acu => s

/-- A unit is declared LOST (R166). -/
def declareLost (u : UnitId) (s : State) : State :=
  let lost := invalidate u (setUnit u (fun r => { r with health := .lost }) s)
  handLoss u (push .unitLost (unitCode u) (unitRecord s.link u).takenAt lost)

/-- A unit's part of the frame ends MISSED (R166, log 16). -/
def missPart (u : UnitId) (s : State) : State :=
  let missed := setUnit u (fun r => { r with missed := raise r.missed }) s
  let r := unitRecord missed.link u
  if s.items.lossLimit ≤ r.missed ∧ (r.health = .joining ∨ r.health = .present) then declareLost u missed
  else missed

/-- The lane named, or the other one where it is not usable (R159). -/
def usableLane (l : Link) (named : LaneId) : Option LaneId :=
  if usable l named then some named else if usable l (otherLane named) then some (otherLane named) else none

/-- A transaction begins: the order is built and the sequence number rises (R157); attempt 1 goes on its lane. -/
def beginTxn (quiet : Bool) (u : UnitId) (lane : LaneId) (unitsLeft : List UnitId) (s : State) : State :=
  let sequence := (unitRecord s.link u).sequence + 1
  let order := laneRecord (unitCode u) typeOrder sequence (if quiet then quietBody u else orderBody s u)
  let mark := fun l : LaneId =>
    ({ silent := false, used := false, dirty := false,
       suspect := decide ((laneRecordOf s.link l).state = .suspect) } : TxnLane)
  let txn : Txn := ⟨u, order, 1, lane, .sending, mark .a, mark .b⟩
  inFrame quiet (.transaction (useLane txn lane)) unitsLeft
    (setUnit u (fun r => { r with sequence := sequence }) s)

/-- The units still to come: a DISABLED one is passed over, one for which no lane is usable ends missed, and the first
other one begins its transaction. The frame ends when none is left (R155, R159). -/
def runUnits (quiet : Bool) : List UnitId → State → State
  | [], s => endFrame quiet s
  | u :: rest, s =>
    if (unitRecord s.link u).settings.enabled then
      match usableLane s.link s.items.preferredLane with
      | some lane => beginTxn quiet u lane rest s
      | none => runUnits quiet rest (missPart u s)
    else runUnits quiet rest s

/-- The order of the transactions (R155). -/
def frameUnits : List UnitId := [.miu, .eu, .bu, .acu]

/-- The lanes whose restore is pending, lane A before lane B (R155, R170). -/
def pendingLanes (l : Link) : List LaneId :=
  (if l.laneA.restorePending then [.a] else []) ++ (if l.laneB.restorePending then [.b] else [])

/-- The probes decided at the beginning of the frame, then its transactions (R155). -/
def runProbes (quiet : Bool) (lanes : List LaneId) (s : State) : State :=
  match lanes with
  | [] => runUnits quiet frameUnits s
  | lane :: rest => inFrame quiet (.probing lane probeRecord rest) frameUnits s

/-- A frame begins: its kind is decided, then its work starts (R155). -/
def beginFrame (s : State) : State :=
  runProbes (decide (s.run.state = .winddown) && engineAtRest s) (pendingLanes s.link) s

/-- The unit of the transaction in progress, or 0 (R156). -/
def unitInProgress : FrameState → Nat
  | .inFrame ⟨_, .transaction t, _⟩ => unitCode t.unit
  | _ => 0

/-- R156. -/
def frameOverrun (s : State) : State :=
  push .frameOverrun (unitInProgress s.link.frame) (BitVec.ofNat 32 (raise s.link.overruns))
    { s with link := { s.link with overruns := raise s.link.overruns } }

/-- The frame timer is set to expire FRAME_PERIOD after the moment (R154). -/
def setFrameTimer (s : State) : State :=
  { s with link := { s.link with
    timer := some (afterMs s.now s.items.framePeriod), periodRead := s.items.framePeriod } }

/-- R154. -/
def frameTimerEnds (s : State) : State :=
  let timed := setFrameTimer s
  match s.link.frame with
  | .waiting => beginFrame timed
  | .inFrame _ => frameOverrun timed
  | .noFrames => timed

/-! ## The end of a transaction and of an attempt (R151, R159, R166, R168) -/

/-- The transaction ends: the clean run counts are judged, a failure ends the unit's part missed, and the frame goes on. -/
def endTxn (quiet : Bool) (t : Txn) (success : Bool) (unitsLeft : List UnitId) (s : State) : State :=
  let judged := judgeClean .b t.onB (judgeClean .a t.onA s)
  runUnits quiet unitsLeft (if success then judged else missPart t.unit judged)

/-- The lane that the next attempt names, or none when no attempt remains (R159). -/
def nextNamed (settings : UnitSettings) (t : Txn) : Option LaneId :=
  if t.attempt = 1 then
    match settings.retry1 with
    | .same => some t.lane
    | .other => some (otherLane t.lane)
  else if t.attempt = 2 then
    match settings.retry2 with
    | .same => some t.lane
    | .other => some (otherLane t.lane)
    | .off => none
  else none

/-- After a failed attempt: the next one on its lane, or the transaction ends as a failure (R159). -/
def nextAttempt (quiet : Bool) (t : Txn) (unitsLeft : List UnitId) (s : State) : State :=
  match (nextNamed (unitRecord s.link t.unit).settings t).bind (usableLane s.link) with
  | some lane => inFrame quiet (.transaction (useLane { t with attempt := t.attempt + 1 } lane)) unitsLeft s
  | none => endTxn quiet t false unitsLeft s

/-- The peer copy after a success, where the unit has a copy destination; else the transaction ends (R168). The copy counter
rises as the copy begins (DESIGN CHOICE, log 15). -/
def copyOrEnd (quiet : Bool) (t : Txn) (unitsLeft : List UnitId) (s : State) : State :=
  match (unitRecord s.link t.unit).settings.copyTo with
  | some destination =>
    inFrame quiet (.transaction { t with phase := .copying (copyRecord destination t.order) }) unitsLeft
      (count t.unit t.lane (fun c => { c with copies := raise c.copies }) s)
  | none => endTxn quiet t true unitsLeft s

/-! ## Transmissions (R160, R161, R170) -/

/-- The end of a probe: its outcome, then the next probe or the first transaction (R170). -/
def endProbe (quiet : Bool) (lane : LaneId) (agrees : Bool) (probesLeft : List LaneId) (s : State) : State :=
  let r := { laneRecordOf s.link lane with restorePending := false }
  runProbes quiet probesLeft
    (if agrees then changeLane lane { r with state := .good, clean := 0 } .probeGood s
     else changeLane lane r .probeBad s)

/-- An order's transmission ends (R160): the report wait begins, or the attempt fails as ECHO_MISMATCH. -/
def endOrder (quiet : Bool) (t : Txn) (agrees : Bool) (unitsLeft : List UnitId) (s : State) : State :=
  if agrees then inFrame quiet (.transaction { t with phase := .waiting }) unitsLeft s
  else
    nextAttempt quiet (dirtyTxn t) unitsLeft
      (count t.unit t.lane
        (fun c => { c with attempts := raise c.attempts, echoMismatch := raise c.echoMismatch })
        (faultLane t.lane .echo s))

/-- A peer copy's transmission ends (R168). -/
def endCopy (quiet : Bool) (t : Txn) (agrees : Bool) (unitsLeft : List UnitId) (s : State) : State :=
  if agrees then endTxn quiet t true unitsLeft s
  else
    endTxn quiet (dirtyTxn t) true unitsLeft
      (count t.unit t.lane (fun c => { c with echoMismatch := raise c.echoMismatch }) (faultLane t.lane .echo s))

/-- The transmission in progress on a lane ends with a check value heard (R160). -/
def transmissionEnds (lane : LaneId) (heard : Word16) (s : State) : State :=
  match s.link.frame with
  | .inFrame ⟨quiet, .probing probed record probesLeft, _⟩ =>
    if probed = lane then endProbe quiet lane (decide (heard = checkValue record)) probesLeft s else s
  | .inFrame ⟨quiet, .transaction t, unitsLeft⟩ =>
    if t.lane = lane then
      match t.phase with
      | .sending => endOrder quiet t (decide (heard = checkValue t.order)) unitsLeft s
      | .copying record => endCopy quiet t (decide (heard = checkValue record)) unitsLeft s
      | .waiting => s
    else s
  | _ => s

/-- The transmission in progress on a lane is cut off by the transmit limit (R161, R168, R170). -/
def transmissionCut (lane : LaneId) (s : State) : State :=
  match s.link.frame with
  | .inFrame ⟨quiet, .probing probed _ probesLeft, _⟩ =>
    if probed = lane then endProbe quiet lane false probesLeft s else s
  | .inFrame ⟨quiet, .transaction t, unitsLeft⟩ =>
    if t.lane = lane then
      match t.phase with
      | .sending =>
        nextAttempt quiet (dirtyTxn t) unitsLeft
          (count t.unit lane (fun c => { c with attempts := raise c.attempts, cutOff := raise c.cutOff })
            (cutLane lane s))
      | .copying _ =>
        endTxn quiet (dirtyTxn t) true unitsLeft
          (count t.unit lane (fun c => { c with cutOff := raise c.cutOff }) (cutLane lane s))
      | .waiting => s
    else s
  | _ => s

/-! ## Reports (R162 to R167, R188, R190) -/

/-- The report wait ends: the attempt is SILENT (R162). -/
def waitEnds (s : State) : State :=
  match s.link.frame with
  | .inFrame ⟨quiet, .transaction t, unitsLeft⟩ =>
    match t.phase with
    | .waiting =>
      nextAttempt quiet (silentTxn t) unitsLeft
        (count t.unit t.lane (fun c => { c with attempts := raise c.attempts, silent := raise c.silent }) s)
    | _ => s
  | _ => s

/-- Received in full: head, announced body and check value; above 31 announced bytes, the body is enough (R190, log 14). -/
def receivedInFull (record : List Byte) : Bool :=
  decide (4 ≤ record.length) &&
    (decide (record.length = 6 + nat8 record 3) ||
      (decide (31 < nat8 record 3) && decide (4 + nat8 record 3 ≤ record.length ∧ record.length ≤ 6 + nat8 record 3)))

/-- The unit's report body length ("Records of the unit link"). -/
def reportLength : UnitId → Nat
  | .miu => 13
  | .eu => 10
  | .bu => 13
  | .acu => 3

/-- A brief-busy body: one byte of flags with BUSY set (R163). -/
def isBrief (record : List Byte) : Bool := decide (nat8 record 3 = 1) && (at8 record 4).getLsbD 0

/-- The four checks of R162 and R190: address and type, sequence, check value, length. -/
def wellFormed (t : Txn) (settings : UnitSettings) (record : List Byte) : Bool :=
  decide (nat8 record 0 = unitCode t.unit ∧ nat8 record 1 = typeReport) &&
    decide (at8 record 2 = at8 t.order 2) &&
    decide (record.length = 6 + nat8 record 3 ∧ crc16 (record.take (4 + nat8 record 3)) = checkValue record) &&
    (decide (nat8 record 3 = reportLength t.unit) || (isBrief record && settings.briefBusy))

/-- The flags a unit reports: bits 0 to 4, and bit 5 of the EU and the BU (R190). -/
def flagMask : UnitId → Byte
  | .miu | .acu => 0x1F#8
  | .eu | .bu => 0x3F#8

/-- The flags of a report, the ignored bits clear. -/
def reportFlags (u : UnitId) (record : List Byte) : Byte := at8 record 4 &&& flagMask u

/-- The STATUS-SET PATTERN of a report (R164). -/
def statusPattern (settings : UnitSettings) (flags : Byte) : Byte := (flags ^^^ settings.expected) &&& settings.mask

/-- The judgement of R164: UNIT_STATUS_SET when the pattern differs from the last one. -/
def judgeStatus (u : UnitId) (pattern flags : Byte) (s : State) : State :=
  if pattern = (unitRecord s.link u).statusSet then s
  else
    push .unitStatusSet (unitCode u) (word32 pattern flags 0#8 0#8)
      (setUnit u (fun r => { r with statusSet := pattern }) s)

/-- The measurements of a full report (R147, R188). -/
def storeMeasurements (u : UnitId) (record : List Byte) (s : State) : State :=
  match u with
  | .miu => { s with link := { s.link with miuMeas :=
      { shaftSpeed := measureUnsigned 8000 record 5
        torque := measureSigned (-2000) 2000 record 7
        motoring := measureSigned (-2000) 2000 record 9
        generating := measureSigned (-2000) 2000 record 11
        distance := measureUnsigned 2550 record 13
        temperature := measureSigned (-40) 1000 record 15 } } }
  | .eu => { s with link := { s.link with euMeas :=
      { engineSpeed := measureUnsigned 8000 record 5
        torque := measureSigned (-2000) 2000 record 7
        available := measureSigned (-2000) 2000 record 9
        catalyst := measureSigned (-40) 1000 record 11
        clutch := clutchOf (nat8 record 13) } } }
  | .bu => { s with link := { s.link with buMeas :=
      { soc := measureUnsigned 1000 record 5
        voltage := measureUnsigned 1000 record 7
        current := measureSigned (-1000) 1000 record 9
        discharge := measureSigned (-2000) 2000 record 11
        chargeLimit := measureSigned (-2000) 2000 record 13
        cellTemperature := measureSigned (-40) 1000 record 15 } } }
  | .acu => { s with link := { s.link with acuDraw := measureSigned (-2000) 2000 record 5 } }

/-- A SILENT fault on the other lane, due when a well-formed report is received (R150). -/
def silentFault (t : Txn) (s : State) : State :=
  if (txnLane t (otherLane t.lane)).silent then faultLane (otherLane t.lane) .silent s else s

/-- A well-formed report settles the silent attempts before it: those on its own lane do not fault it, and the other
lane's fault has been taken (R150). -/
def settleSilent (t : Txn) : Txn :=
  { t with onA := { t.onA with silent := false }, onB := { t.onB with silent := false } }

/-- The unit's record after a taken report (R165, steps 3 to 6). -/
def takeIntoRecord (u : UnitId) (lane : LaneId) (record : List Byte) (s : State) : State :=
  let full := !isBrief record
  let stored := if full then storeMeasurements u record s else s
  count u lane (fun c => { c with attempts := raise c.attempts, taken := raise c.taken })
    (setUnit u (fun r => { r with
      health := .present
      missed := 0
      flags := reportFlags u record
      takenAt := s.now
      measuredAt := if full then s.now else r.measuredAt }) stored)

/-- The end of a lost unit's limp cause is reported to Run Control (R167). -/
def endLossCause (u : UnitId) (s : State) : State :=
  match u with
  | .miu => causeEnds .miuLost s
  | .bu => causeEnds .buLost s
  | .eu | .acu => s

/-- The restoration of the MIU, the EU or the BU is a trigger besides (R99, R167, log 6). -/
def restorationTrigger (u : UnitId) (s : State) : State :=
  match u with
  | .miu | .eu | .bu => trigger s
  | .acu => s

/-- The Tracker takes an MIU report's distance; a brief-busy report and an INVALID distance add nothing (R81). -/
def trackReport (record : List Byte) (s : State) : State :=
  if isBrief record then s
  else
    match measureUnsigned 2550 record 13 with
    | some dm => takeDistance dm.toNat s
    | none => s

/-- The report is handed to its readers (R165, step 7); `entered` says whether it made the unit PRESENT. -/
def handReport (u : UnitId) (entered : Bool) (record : List Byte) (s : State) : State :=
  match u with
  | .miu => trigger (trackReport record s)
  | .eu => trigger (engineTakeReport entered s)
  | .bu => trigger s
  | .acu => overdrawCheck s

/-- The act of a TAKEN report (R165, R167), after the judgement of R164 and the SILENT fault. -/
def takeReport (u : UnitId) (lane : LaneId) (record : List Byte) (s : State) : State :=
  let before := unitRecord s.link u
  let restored := if before.health = .lost then
      push .unitRestored (unitCode u) (BitVec.ofNat 32 before.missed) s else s
  let taken := takeIntoRecord u lane record restored
  let entered := decide (before.health = .lost ∨ before.health = .joining)
  if before.health = .lost then restorationTrigger u (handReport u entered record (endLossCause u taken))
  else handReport u entered record taken

/-- A well-formed report: judged by R164, then taken, or failed as STATUS_SET. -/
def reportJudged (quiet : Bool) (t : Txn) (unitsLeft : List UnitId) (record : List Byte) (s : State) : State :=
  let settings := (unitRecord s.link t.unit).settings
  let pattern := statusPattern settings (reportFlags t.unit record)
  let faulted := silentFault t (judgeStatus t.unit pattern (reportFlags t.unit record) s)
  if pattern ≠ 0#8 ∧ settings.retryIfStatusSet = true then
    nextAttempt quiet (dirtyTxn (settleSilent t)) unitsLeft
      (count t.unit t.lane (fun c => { c with attempts := raise c.attempts }) faulted)
  else copyOrEnd quiet (settleSilent t) unitsLeft (takeReport t.unit t.lane record faulted)

/-- A report received in full within the report wait (R162): validated, refused or judged. -/
def reportArrives (record : List Byte) (s : State) : State :=
  match s.link.frame with
  | .inFrame ⟨quiet, .transaction t, unitsLeft⟩ =>
    match t.phase with
    | .waiting =>
      if receivedInFull record then
        if wellFormed t (unitRecord s.link t.unit).settings record then reportJudged quiet t unitsLeft record s
        else
          nextAttempt quiet (dirtyTxn t) unitsLeft
            (count t.unit t.lane (fun c => { c with attempts := raise c.attempts, refused := raise c.refused }) s)
      else s
    | _ => s
  | _ => s

end Sys2Proof.Machine
end

