-- ==== Sys2Proof/Machine/LinkRows.lean ====
section
/-! DEFINITION. The rows of the Unit Link Controller: UNIT_SET, UNIT_READ, LANE_RESTORE, and the frame timer,
transmissions, cut-offs, reports and report waits (R148, R154, R160 to R162, R169, R172). -/

namespace Sys2Proof.Machine

/-! ## UNIT_SET (R148) -/

/-- A flag of a request, 0 or 1. -/
def flagOf : Nat → Option Bool
  | 0 => some false
  | 1 => some true
  | _ => none

def retry1Given : Nat → Option Retry1
  | 0 => some .same
  | 1 => some .other
  | _ => none

def retry2Given : Nat → Option Retry2
  | 0 => some .same
  | 1 => some .other
  | 2 => some .off
  | _ => none

/-- The copy destination: 0 for none, or the link address of another unit. -/
def copyGiven (u : UnitId) (code : Nat) : Option (Option UnitId) :=
  if code = 0 then some none
  else
    match unitOf code with
    | some d => if d = u then none else some (some d)
    | none => none

/-- The settings that a UNIT_SET gives a unit, or none where one is outside its values. -/
def settingsGiven (u : UnitId) (p : List Byte) : Option UnitSettings :=
  if at8 p 2 &&& ~~~flagMask u ≠ 0#8 ∨ at8 p 3 &&& ~~~flagMask u ≠ 0#8 then none
  else
    match flagOf (nat8 p 1), retry1Given (nat8 p 4), retry2Given (nat8 p 5), flagOf (nat8 p 6), flagOf (nat8 p 7),
      copyGiven u (nat8 p 8) with
    | some enabled, some retry1, some retry2, some onStatus, some brief, some copy =>
      some ⟨enabled, at8 p 2, at8 p 3, retry1, retry2, onStatus, brief, copy⟩
    | _, _, _, _, _, _ => none

/-- The health after UNIT_SET, by the enabled setting before and now (R148). -/
def healthAfterSet (before now : Bool) (health : Health) : Health :=
  if now then (if before then health else .joining) else .disabled

/-- The unit record after UNIT_SET. -/
def withSettings (g : UnitSettings) (r : UnitRecord) : UnitRecord :=
  { r with
    settings := g
    statusSet := 0#8
    onA := .zero
    onB := .zero
    health := healthAfterSet r.settings.enabled g.enabled r.health
    missed := if r.settings.enabled && !g.enabled then 0 else r.missed }

/-- A MIU or BU that leaves LOST ends its limp cause; a change of the MIU's, EU's or BU's health is a trigger (R148). -/
def handHealth (u : UnitId) (before after : Health) (s : State) : State :=
  let left := if before = .lost ∧ after ≠ .lost then endLossCause u s else s
  if before = after then left else restorationTrigger u left

/-- R148, the changes of an accepted UNIT_SET. -/
def setUnitSettings (u : UnitId) (g : UnitSettings) (s : State) : State :=
  let before := unitRecord s.link u
  let set := setUnit u (withSettings g) s
  let emptied := if before.settings.enabled && !g.enabled then invalidate u set else set
  handHealth u before.health (withSettings g before).health emptied

/-- The settings of R148 in the order of UNIT_SET. -/
def settingsBytes (g : UnitSettings) : List Byte :=
  flag g.enabled ++ [g.expected, g.mask] ++ u8 (retry1Code g.retry1) ++ u8 (retry2Code g.retry2) ++
    flag g.retryIfStatusSet ++ flag g.briefBusy ++ u8 ((g.copyTo.map unitCode).getD 0)

/-- R148. -/
def unitSetAct (payload : List Byte) (s : State) : State × Answer :=
  if s.run.state ≠ .standby then refusedWith .state s
  else
    match unitOf (nat8 payload 0) with
    | none => refusedWith .range s
    | some u =>
      match settingsGiven u payload with
      | none => refusedWith .range s
      | some g =>
        let after := setUnitSettings u g s
        doneWith (settingsBytes g ++ u8 (healthCode (unitRecord after.link u).health)) after

/-! ## UNIT_READ (R172) -/

/-- A unit's measurements in the order of R147. -/
def measurementBytes (l : Link) : UnitId → List Byte
  | .miu =>
    unsignedQty l.miuMeas.shaftSpeed ++ signedQty l.miuMeas.torque ++ signedQty l.miuMeas.motoring ++
      signedQty l.miuMeas.generating ++ unsignedQty l.miuMeas.distance ++ signedQty l.miuMeas.temperature
  | .eu => euMeasurementBytes l.euMeas
  | .bu =>
    unsignedQty l.buMeas.soc ++ unsignedQty l.buMeas.voltage ++ signedQty l.buMeas.current ++
      signedQty l.buMeas.discharge ++ signedQty l.buMeas.chargeLimit ++ signedQty l.buMeas.cellTemperature
  | .acu => signedQty l.acuDraw

def counterBytes (c : LaneCounters) : List Byte :=
  u16 c.attempts ++ u16 c.taken ++ u16 c.silent ++ u16 c.refused ++ u16 c.echoMismatch ++ u16 c.cutOff ++ u16 c.copies

def laneBytes (r : Lane) : List Byte := u8 (laneStateCode r.state) ++ u8 r.clean ++ flag r.restorePending

/-- The frame state, whose codes the layouts chapter does not list. -/
def frameStateName : FrameState → Config.UnlistedValue
  | .noFrames => .framesNone
  | .waiting => .framesWaiting
  | .inFrame _ => .framesInFrame

/-- R172. -/
def unitReadAct (payload : List Byte) (s : State) : State × Answer :=
  match unitOf (nat8 payload 0) with
  | none => refusedWith .range s
  | some u =>
    let r := unitRecord s.link u
    doneWith (settingsBytes r.settings ++ u8 (healthCode r.health) ++ u16 r.missed ++ [r.sequence, r.flags, r.statusSet] ++
      measurementBytes s.link u ++ be32 r.measuredAt ++ counterBytes r.onA ++ counterBytes r.onB ++
      laneBytes s.link.laneA ++ laneBytes s.link.laneB ++ unlisted (frameStateName s.link.frame) ++
      u8 s.link.periodRead ++ u16 s.link.overruns) s

/-! ## LANE_RESTORE (R169) -/

/-- A lane's restore pending mark becomes YES. -/
def markRestore (lane : LaneId) (s : State) : State :=
  { s with link := withLane lane { laneRecordOf s.link lane with restorePending := true } s.link }

/-- R169. -/
def laneRestoreAct (payload : List Byte) (s : State) : State × Answer :=
  match laneOf (nat8 payload 0) with
  | none => refusedWith .range s
  | some lane =>
    if s.run.state = .standby ∨ (laneRecordOf s.link lane).state ≠ .failed then refusedWith .state s
    else acceptedWith [] (markRestore lane s)

/-- UNIT_SET. -/
def execUnitSet (tag : Byte) (payload : List Byte) (s : State) : Effect :=
  .next (request 0x21#8 9 tag payload (unitSetAct payload) s)

/-- UNIT_READ. -/
def execUnitRead (tag : Byte) (payload : List Byte) (s : State) : Effect :=
  .next (request 0x22#8 1 tag payload (unitReadAct payload) s)

/-- LANE_RESTORE. -/
def execLaneRestore (tag : Byte) (payload : List Byte) (s : State) : Effect :=
  .next (request 0x23#8 1 tag payload (laneRestoreAct payload) s)

/-- FRAME_TIMER_EXPIRY (R154): at the frame timer's expiry. -/
def execFrameTimerExpiry (s : State) : Effect :=
  .next (unlessHeld (fun s0 => if expired s0.now s0.link.timer then frameTimerEnds s0 else s0) s)

/-- LINK_TRANSMISSION_END (R160). -/
def execLinkTransmissionEnd (lane : LaneId) (heard : Word16) (s : State) : Effect :=
  .next (unlessHeld (transmissionEnds lane heard) s)

/-- TRANSMIT_LIMIT_CUTOFF (R161). -/
def execTransmitLimitCutoff (lane : LaneId) (s : State) : Effect :=
  .next (unlessHeld (transmissionCut lane) s)

/-- REPORT_RECEIVED (R162). -/
def execReportReceived (record : List Byte) (s : State) : Effect :=
  .next (unlessHeld (reportArrives record) s)

/-- REPORT_WAIT_EXPIRY (R162). -/
def execReportWaitExpiry (s : State) : Effect := .next (unlessHeld waitEnds s)

end Sys2Proof.Machine
end

