-- ==== Sys2Proof/Machine/PinRows.lean ====
section
/-! DEFINITION. The rows of the pins: FULL_RESET, RESET_N_ASSERTED, INPUT_RAW_CHANGE, DEBOUNCE_EXPIRY (R17, R26, R27,
R29, R187), and the pin levels of the two outputs. -/

namespace Sys2Proof.Machine

/-! ## Reset (R17, R29, R187) -/

/-- FULL_RESET: RESET_N is released, and every block is in its full-reset state. The commands that wait are the senders'
and stay (log 24). -/
def execFullReset (straps : Straps) (levels : Levels) (s : State) : Effect :=
  .next (State.fullReset straps levels s.pending)

/-- RESET_N is held low: both outputs deasserted, both polarity items at their default (R187). -/
def holdReset (s : State) : State :=
  { s with
    resetHeld := true
    outputs := { alert := false, limpOut := false }
    items := { s.items with alertPolarity := .activeLow, limpOutPolarity := .activeLow } }

/-- RESET_N_ASSERTED. -/
def execResetNAsserted (s : State) : Effect := .next (holdReset s)

/-- The pin level of an output, high or low: with ACTIVE_LOW low while asserted, with ACTIVE_HIGH high (R187). -/
def pinHigh (polarity : Polarity) (asserted : Bool) : Bool :=
  match polarity with
  | .activeLow => !asserted
  | .activeHigh => asserted

/-- The level of the ALERT pin. -/
def alertPin (s : State) : Bool := pinHigh s.items.alertPolarity s.outputs.alert

/-- The level of the LIMP_OUT pin. -/
def limpOutPin (s : State) : Bool := pinHigh s.items.limpOutPolarity s.outputs.limpOut

/-! ## Discrete inputs (R26, R27) -/

def inputOf (l : Lines) : Line → Input
  | .ign => l.ign
  | .svc => l.svc
  | .plug => l.plug
  | .aux => l.aux

def withInput (line : Line) (i : Input) (l : Lines) : Lines :=
  match line with
  | .ign => { l with ign := i }
  | .svc => { l with svc := i }
  | .plug => { l with plug := i }
  | .aux => { l with aux := i }

def setInput (line : Line) (i : Input) (s : State) : State := { s with lines := withInput line i s.lines }

/-- An input's edge select and event enable (R27). -/
def edgeOfLine (t : Items) : Line → EdgeSelect
  | .ign => t.ignEdge
  | .svc => t.svcEdge
  | .plug => t.plugEdge
  | .aux => t.auxEdge

def eventOfLine (t : Items) : Line → Bool
  | .ign => t.ignEvent
  | .svc => t.svcEvent
  | .plug => t.plugEvent
  | .aux => t.auxEvent

/-- The edge item selects a change to this level (R27). -/
def selects (e : EdgeSelect) (level : Bool) : Bool :=
  match e with
  | .rising => level
  | .falling => !level
  | .both => true

/-- A raw level that differs from the last one is a change: it is recorded with its time tag (R26). -/
def rawChange (line : Line) (level : Bool) (s : State) : State :=
  let i := inputOf s.lines line
  if level = i.settling then s else setInput line { i with settling := level, settledAt := s.now } s

/-- LINE_EDGE, where the items select the change (R27). -/
def pushLineEdge (line : Line) (level : Bool) (s : State) : State :=
  if eventOfLine s.items line && selects (edgeOfLine s.items line) level then
    push .lineEdge (lineCode line) (BitVec.ofNat 32 (boolCode level)) s
  else s

/-- The SERVICE cause, the forced stop and the trigger of a change of SVC (R18, R99, R138). -/
def serviceChanges (level : Bool) (s : State) : State :=
  if level then trigger (forcedStop .service (causeBegins .service s)) else trigger (causeEnds .service s)

/-- The readers of an input's debounced level act on its change: IGN in R22, SVC in R18, R99 and R138, PLUG in R44. -/
def levelChanged (line : Line) (level : Bool) (s : State) : State :=
  match line with
  | .ign => if level then s else endShift s
  | .svc => serviceChanges level s
  | .plug => trigger s
  | .aux => s

/-- The settling level has been stable for 5 ms and differs from the debounced level (R26). -/
def settled (now : TimeTag) (i : Input) : Bool :=
  decide (i.settling ≠ i.level ∧ Config.debounceMs ≤ elapsed i.settledAt now)

/-- The debounced level becomes the settling level, and its readers act (R26). -/
def debounce (line : Line) (s : State) : State :=
  let i := inputOf s.lines line
  if settled s.now i then
    levelChanged line i.settling (pushLineEdge line i.settling
      (setInput line { i with level := i.settling, changedAt := s.now } s))
  else s

/-- INPUT_RAW_CHANGE. -/
def execInputRawChange (line : Line) (level : Bool) (s : State) : Effect :=
  .next (unlessHeld (rawChange line level) s)

/-- DEBOUNCE_EXPIRY. -/
def execDebounceExpiry (line : Line) (s : State) : Effect := .next (unlessHeld (debounce line) s)

end Sys2Proof.Machine
end

