-- ==== Sys2Proof/Machine/PortOps.lean ====
section
/-! DEFINITION. The Message Port's receiver, refusals and transmit line (09_message_port_and_event_stack.md, R173 to
R182). The partial frame holds the bytes taken since and with the sync byte. -/

namespace Sys2Proof.Machine

/-- The receiver in a state with a partial frame. -/
def setReceiver (r : Receiver) (bytes : List Byte) (s : State) : State :=
  { s with port := { s.port with receiver := r, partialFrame := bytes } }

/-- A BUSY or FRAME refusal joins the reply queue while it holds fewer than 4 replies, and is discarded otherwise (R178). -/
def refuse (f : Frame) (s : State) : State :=
  if s.port.replies.length < Config.replyCapacity then queueReply f s else s

/-- The FRAME reply of a failed partial frame: the kind and tag as far as they were taken (R175, R189). -/
def frameRefusal (bytes : List Byte) : Frame :=
  ⟨if 3 ≤ bytes.length then replyKind (at8 bytes 2) else 0x80#8, if 4 ≤ bytes.length then at8 bytes 3 else 0#8,
    u8 (resultCode .frame)⟩

/-- A frame FAILS: it is discarded, and answered with FRAME (R175). -/
def failFrame (next : Receiver) (bytes : List Byte) (s : State) : State :=
  refuse (frameRefusal bytes) (setReceiver next [] s)

/-- The request of a complete frame. -/
def frameOf (bytes : List Byte) : Frame := ⟨at8 bytes 2, at8 bytes 3, (bytes.drop 4).take (nat8 bytes 1)⟩

/-- The CRC over the length, kind, tag and payload agrees with the last two bytes (R175). -/
def crcAgrees (bytes : List Byte) : Bool :=
  decide (crc16 ((bytes.drop 1).take (3 + nat8 bytes 1)) = at16 bytes (4 + nat8 bytes 1))

/-- A WELL-FORMED frame is judged: it joins the receive queue, or is answered BUSY (R176). -/
def receiveFrame (f : Frame) (s : State) : State :=
  if s.port.received.length < Config.receiveCapacity then
    { s with port := { s.port with received := s.port.received ++ [f] } }
  else refuse (replyFrame f.kind f.tag ⟨.busy, []⟩) s

/-- A complete frame is judged when its last byte is taken (R175, R176). -/
def completeFrame (bytes : List Byte) (s : State) : State :=
  if crcAgrees bytes then receiveFrame (frameOf bytes) (setReceiver .hunt [] s) else failFrame .hunt bytes s

/-- The number of bytes of a frame whose payload length has been taken. -/
def frameLength (bytes : List Byte) : Nat := 6 + nat8 bytes 1

/-- The byte is the last CRC byte of the frame being received. -/
def endsFrame (s : State) : Bool :=
  decide (s.port.receiver = .body ∧ s.port.partialFrame.length + 1 = frameLength s.port.partialFrame)

/-- A byte in HEADER: payload length, kind, tag (R174). -/
def takeHeaderByte (b : Byte) (s : State) : State :=
  let bytes := s.port.partialFrame ++ [b]
  if bytes.length = 2 ∧ Config.maxPayload < b.toNat then failFrame .discard [] s
  else if bytes.length < 4 then setReceiver .header bytes s
  else setReceiver .body bytes s

/-- The receiver takes a byte (R174). -/
def takeByte (b : Byte) (s : State) : State :=
  match s.port.receiver with
  | .hunt => if b = Config.syncByte then setReceiver .header [b] s else s
  | .header => takeHeaderByte b s
  | .body =>
    let bytes := s.port.partialFrame ++ [b]
    if bytes.length < frameLength bytes then setReceiver .body bytes s else completeFrame bytes s
  | .discard => s

/-- R175, Gap: the frame in HEADER or BODY fails and the receiver returns to HUNT. -/
def gapPasses (s : State) : State :=
  match s.port.receiver with
  | .header | .body => failFrame .hunt s.port.partialFrame s
  | .hunt | .discard => s

/-- R174: the receiver leaves DISCARD. -/
def resumeHunt (s : State) : State :=
  match s.port.receiver with
  | .discard => setReceiver .hunt [] s
  | .hunt | .header | .body => s

/-- R182. -/
def lineBreak (s : State) : State :=
  { s with port := { s.port with
    receiver := .discard, partialFrame := [], received := [], replies := [], notice := none, transmitting := none } }

/-- R179: the oldest reply, else the notice, else the line stays idle. -/
def startTransmission (s : State) : State :=
  match s.port.replies, s.port.notice with
  | f :: rest, _ => { s with port := { s.port with replies := rest, transmitting := some f } }
  | [], some e => { s with port := { s.port with notice := none, transmitting := some (noticeFrame e) } }
  | [], none => { s with port := { s.port with transmitting := none } }

end Sys2Proof.Machine
end

