-- ==== Sys2Proof/Machine/PortRows.lean ====
section
/-! DEFINITION. The rows of the Message Port and the Event Stack: EVENTS_READ, NOTICE_MASK_SET, ALERT_MASK_SET,
UNDEFINED_KIND, and the rows of the host line (R174 to R182, R185, R186). -/

namespace Sys2Proof.Machine

/-! ## Requests -/

/-- R185: the oldest entries leave; OVERRUN becomes clear; ALERT is judged. -/
def readEvents (n : Nat) (s : State) : State :=
  judgeAlert { s with stack := { s.stack with entries := s.stack.entries.drop n, overrun := false } }

/-- R185. -/
def eventsReadAct (payload : List Byte) (s : State) : State × Answer :=
  let n := nat8 payload 0
  if n < 1 ∨ 8 < n then refusedWith .range s
  else
    let removed := s.stack.entries.take n
    doneWith (u8 removed.length ++ removed.flatMap entryBytes ++ u8 (s.stack.entries.drop n).length ++
      flag s.stack.overrun) (readEvents n s)

/-- A set of event kinds names nothing but the 25 kinds: bits 25 to 31 are clear ("The event entry"). -/
def kindsOnly (set : Word32) : Bool := decide (set &&& ~~~allKinds = 0#32)

/-- R181. -/
def noticeMaskSetAct (payload : List Byte) (s : State) : State × Answer :=
  let set := at32 payload 0
  if kindsOnly set then doneWith (be32 set) { s with port := { s.port with noticeMask := set } }
  else refusedWith .range s

/-- R186: ALERT is judged at once. -/
def alertMaskSetAct (payload : List Byte) (s : State) : State × Answer :=
  let set := at32 payload 0
  if kindsOnly set then doneWith (be32 set) (judgeAlert { s with stack := { s.stack with alertMask := set } })
  else refusedWith .range s

/-- EVENTS_READ. -/
def execEventsRead (tag : Byte) (payload : List Byte) (s : State) : Effect :=
  .next (request 0x24#8 1 tag payload (eventsReadAct payload) s)

/-- NOTICE_MASK_SET. -/
def execNoticeMaskSet (tag : Byte) (payload : List Byte) (s : State) : Effect :=
  .next (request 0x25#8 4 tag payload (noticeMaskSetAct payload) s)

/-- ALERT_MASK_SET. -/
def execAlertMaskSet (tag : Byte) (payload : List Byte) (s : State) : Effect :=
  .next (request 0x26#8 4 tag payload (alertMaskSetAct payload) s)

/-- UNDEFINED_KIND (R177): answered UNKNOWN whatever its payload. -/
def execUndefinedKind (kind tag : Byte) (payload : List Byte) (s : State) : Effect :=
  .next (if kindDefined kind then s
    else request kind payload.length tag payload (refusedWith .unknown) s)

/-! ## The host line -/

/-- HOST_BYTE_TAKEN (R174). A byte that is the frame's last CRC byte completes the frame (log 21). -/
def execHostByteTaken (b : Byte) (s : State) : Effect := .next (unlessHeld (takeByte b) s)

/-- HOST_FRAME_COMPLETE (R175, R176): the frame's last CRC byte is taken. -/
def execHostFrameComplete (b : Byte) (s : State) : Effect :=
  .next (unlessHeld (fun s0 =>
    if endsFrame s0 then completeFrame (s0.port.partialFrame ++ [b]) s0 else s0) s)

/-- FRAME_GAP (R175). -/
def execFrameGap (s : State) : Effect := .next (unlessHeld gapPasses s)

/-- RECEIVER_HUNT_RESUME (R174). -/
def execReceiverHuntResume (s : State) : Effect := .next (unlessHeld resumeHunt s)

/-- HOST_LINE_BREAK (R182). -/
def execHostLineBreak (s : State) : Effect := .next (unlessHeld lineBreak s)

/-- TRANSMISSION_START (R179): the transmit line is free (log 5). -/
def execTransmissionStart (s : State) : Effect := .next (unlessHeld startTransmission s)

end Sys2Proof.Machine
end

