-- ==== Sys2Proof/Machine/RunRequests.lean ====
section
/-! DEFINITION. The requests of Run Control and the Line Interface: IDENTIFY, RUN, HALT, LIMP_CLEAR, RUN_READ, LINES_READ
(R20 to R22, R25, R28, R30). -/

namespace Sys2Proof.Machine

/-- The three strap values, BELT, LANES, RATE. -/
def strapBytes (t : Straps) : List Byte := flag t.beltFitted ++ flag t.lanesSingle ++ flag t.rateTwoMbit

/-- R30: codes, straps, capacities 12, 16, 128 and 128. -/
def identifyAct (s : State) : State × Answer :=
  doneWith (u16 Config.vendorCode ++ u16 Config.partCode ++ u8 Config.revisionCode ++ strapBytes s.lines.straps ++
    u8 (2 + Config.auxChannels) ++ u8 Config.askCapacity ++ u8 Config.singleCapacity ++ u8 Config.stackCapacity) s

/-- R20. -/
def runAct (s : State) : State × Answer :=
  if s.run.state = .standby ∧ s.lines.ign.level = true ∧ s.lines.svc.level = false ∧ s.lines.plug.level = false then
    doneWith [] (startDrive s)
  else refusedWith .state s

/-- R22. -/
def haltAct (s : State) : State × Answer := doneWith [] (endShift s)

/-- R21: the reply carries the cause set, a refusal's too. -/
def limpClearAct (s : State) : State × Answer :=
  let causes := u8 (causesCode s.run.causes)
  if s.run.state = .limp ∧ s.run.causes = LimpCauses.empty then doneWith causes (clearLimp s)
  else (s, ⟨.state, causes⟩)

/-- R25. -/
def runReadAct (s : State) : State × Answer :=
  doneWith (u8 (runStateCode s.run.state) ++ u8 (causesCode s.run.causes) ++ be32 s.run.lastChange ++
    flag s.lines.ign.level ++ flag s.lines.svc.level ++ flag s.lines.plug.level ++ flag s.lines.aux.level ++
    strapBytes s.lines.straps) s

/-- One input's record in LINES_READ. -/
def inputBytes (i : Input) (edge : EdgeSelect) (event : Bool) : List Byte :=
  flag i.level ++ flag (i.settling != i.level) ++ be32 i.changedAt ++ u8 (edgeCode edge) ++ flag event

/-- R28. -/
def linesReadAct (s : State) : State × Answer :=
  doneWith (inputBytes s.lines.ign s.items.ignEdge s.items.ignEvent ++
    inputBytes s.lines.svc s.items.svcEdge s.items.svcEvent ++
    inputBytes s.lines.plug s.items.plugEdge s.items.plugEvent ++
    inputBytes s.lines.aux s.items.auxEdge s.items.auxEvent) s

/-- IDENTIFY. -/
def execIdentify (tag : Byte) (payload : List Byte) (s : State) : Effect :=
  .next (request 0x01#8 0 tag payload identifyAct s)

/-- RUN. -/
def execRun (tag : Byte) (payload : List Byte) (s : State) : Effect :=
  .next (request 0x02#8 0 tag payload runAct s)

/-- HALT. -/
def execHalt (tag : Byte) (payload : List Byte) (s : State) : Effect :=
  .next (request 0x03#8 0 tag payload haltAct s)

/-- LIMP_CLEAR. -/
def execLimpClear (tag : Byte) (payload : List Byte) (s : State) : Effect :=
  .next (request 0x04#8 0 tag payload limpClearAct s)

/-- RUN_READ. -/
def execRunRead (tag : Byte) (payload : List Byte) (s : State) : Effect :=
  .next (request 0x05#8 0 tag payload runReadAct s)

/-- LINES_READ. -/
def execLinesRead (tag : Byte) (payload : List Byte) (s : State) : Effect :=
  .next (request 0x08#8 0 tag payload linesReadAct s)

end Sys2Proof.Machine
end

