-- ==== Sys2Proof/Machine/SplitRequests.lean ====
section
/-! DEFINITION. The requests of the Split Solver and SOLVE_COMPLETION: SPLIT_READ, ZONE_TABLE_SET (R100, R104, R125). -/

namespace Sys2Proof.Machine

/-- The four table rows, each a one-byte mode set. -/
def tableBytes (t : ZoneTable) : List Byte :=
  u8 (modesCode t.openZone) ++ u8 (modesCode t.lowEmission) ++ u8 (modesCode t.zeroEmission) ++ u8 (modesCode t.quiet)

/-- R125: the current record, the solve state and REPEAT, the charge latch, the depletion note, the table. -/
def splitReadAct (s : State) : State × Answer :=
  doneWith (recordBytes s.solver.record ++
    unlisted (if s.solver.solve.isSome then .solveInFlight else .solveIdle) ++ flag s.solver.repeatMark ++
    flag s.solver.latch ++ u16 (s.solver.depletion.getD 0) ++ tableBytes s.solver.table) s

/-- One row of the table replaced. -/
def setTableRow (z : Zone) (m : ModeSet) (t : ZoneTable) : ZoneTable :=
  match z with
  | .openZone => { t with openZone := m }
  | .lowEmission => { t with lowEmission := m }
  | .zeroEmission => { t with zeroEmission := m }
  | .quiet => { t with quiet := m }

/-- The last three checks of R104: bits 6 and 7 name LIMP and nothing, EV must be named, and ZERO_EMISSION takes no engine
mode. -/
def rowAllowed (z : Zone) (set : Byte) : Bool :=
  decide (set &&& 0xC0#8 = 0#8) && (modesOf set).ev &&
    !(decide (z = .zeroEmission) && namesEngineMode (modesOf set))

/-- A row takes a set; a set that differs from the row held is a trigger (R104). -/
def setRow (z : Zone) (m : ModeSet) (s : State) : State :=
  let changed := { s with solver := { s.solver with table := setTableRow z m s.solver.table } }
  if m = tableRow s.solver.table z then changed else trigger changed

/-- R104: the reply carries the whole table. -/
def zoneTableSetAct (payload : List Byte) (s : State) : State × Answer :=
  if s.run.state ≠ .standby then refusedWith .state s
  else
    match zoneOf (nat8 payload 0) with
    | none => refusedWith .range s
    | some z =>
      if rowAllowed z (at8 payload 1) then
        let after := setRow z (modesOf (at8 payload 1)) s
        doneWith (tableBytes after.solver.table) after
      else refusedWith .range s

/-- SPLIT_READ. -/
def execSplitRead (tag : Byte) (payload : List Byte) (s : State) : Effect :=
  .next (request 0x1B#8 0 tag payload splitReadAct s)

/-- ZONE_TABLE_SET. -/
def execZoneTableSet (tag : Byte) (payload : List Byte) (s : State) : Effect :=
  .next (request 0x1E#8 2 tag payload (zoneTableSetAct payload) s)

/-- The solve in flight completes (R100); with the solve state IDLE there is none. -/
def solveCompletes (s : State) : State :=
  match s.solver.solve with
  | some n => completeSolve n s
  | none => s

/-- SOLVE_COMPLETION. -/
def execSolveCompletion (s : State) : Effect := .next (unlessHeld solveCompletes s)

end Sys2Proof.Machine
end

