-- ==== Sys2Proof/Machine/TimeoutRows.lean ====
section
/-! DEFINITION. The expiries of the demand channels' timers and of the grants' timers: TRACTION_DEMAND_TIMEOUT,
BRAKE_DEMAND_TIMEOUT, CONFIRM_TIMER_EXPIRY, EXHAUSTION_EXPIRY (R38, R40, R61, R65). -/

namespace Sys2Proof.Machine

/-- Channel 0 after its timer's expiry (R38). -/
def tractionLost (s : State) : State :=
  { s with demand := { s.demand with
    traction := { s.demand.traction with value := none, fresh := false, timer := none }
    lost := true
    lostAt := s.now } }

/-- R38: DEMAND_LOST, then the cause, then the demand change where the value was a number. -/
def tractionTimesOut (s : State) : State :=
  let begun := causeBegins .demandLost (push .demandLost 0 s.demand.traction.arrival (tractionLost s))
  if s.demand.traction.value.isSome then trigger begun else begun

/-- Channel 1 after its timer's expiry (R40). -/
def brakeZeroed (d : Demand) : Demand :=
  { d with brake := { d.brake with value := some 0, fresh := false, timer := none } }

/-- R61: the offer ends, GRANT_EXPIRED is pushed, and a pass runs. -/
def confirmTimesOut (channel : Nat) (terms : Terms) (s : State) : State :=
  arbiterAct (fun s0 =>
    pass (push .grantExpired channel (offerDetail terms.power terms.pool)
      (setAux channel { auxAt s0 channel with grant := .none } s0))) s

/-- R65: the grant ends with the used energy equal to the allowance, GRANT_EXHAUSTED is pushed, and a pass runs. -/
def grantExhausts (channel : Nat) (s : State) : State :=
  arbiterAct (fun s0 =>
    let c := auxAt s0 channel
    pass (push .grantExhausted channel (BitVec.ofNat 32 c.allowance)
      (setAux channel { c with grant := .none, used := c.allowance } s0))) s

/-- The confirm timer of a channel that is OFFERED ends. -/
def confirmTimerEnds (channel : Nat) (s : State) : State :=
  match (auxAt s channel).grant with
  | .offered terms confirmBy => if below s.now confirmBy then s else confirmTimesOut channel terms s
  | _ => s

/-- The exhaustion expiry of a channel that is HELD comes. -/
def exhaustionComes (channel : Nat) (s : State) : State :=
  match (auxAt s channel).grant with
  | .held _ _ exhaustAt => if expired s.now exhaustAt then grantExhausts channel s else s
  | _ => s

/-- A row that names an auxiliary channel: there are no others than 2 to 11 (log 1). -/
def onAuxChannel (channel : Nat) (act : State → State) (s : State) : State := if auxIndex channel then act s else s

/-- TRACTION_DEMAND_TIMEOUT. -/
def execTractionDemandTimeout (s : State) : Effect :=
  .next (unlessHeld (fun s0 => if expired s0.now s0.demand.traction.timer then tractionTimesOut s0 else s0) s)

/-- BRAKE_DEMAND_TIMEOUT. -/
def execBrakeDemandTimeout (s : State) : Effect :=
  .next (unlessHeld (fun s0 =>
    if expired s0.now s0.demand.brake.timer then demandAct brakeZeroed s0 else s0) s)

/-- CONFIRM_TIMER_EXPIRY. -/
def execConfirmTimerExpiry (channel : Nat) (s : State) : Effect :=
  .next (unlessHeld (onAuxChannel channel (confirmTimerEnds channel)) s)

/-- EXHAUSTION_EXPIRY. -/
def execExhaustionExpiry (channel : Nat) (s : State) : Effect :=
  .next (unlessHeld (onAuxChannel channel (exhaustionComes channel)) s)

end Sys2Proof.Machine
end

