-- ==== Sys2Proof/Machine/Dispatch.lean ====
section
/-! DEFINITION. The meaning of every command: one arm for each constructor of Instr, one direct call in each. -/

namespace Sys2Proof.Machine

def exec (i : Instr) (s : State) : Host.Outcome State Fault Refusal :=
    match i with
    | .fullReset straps levels => Sys2Proof.Machine.execFullReset straps levels s
    | .holdsTest tag payload => Sys2Proof.Machine.execHoldsTest tag payload s
    | .holdsClear tag payload => Sys2Proof.Machine.execHoldsClear tag payload s
    | .identify tag payload => Sys2Proof.Machine.execIdentify tag payload s
    | .run tag payload => Sys2Proof.Machine.execRun tag payload s
    | .halt tag payload => Sys2Proof.Machine.execHalt tag payload s
    | .limpClear tag payload => Sys2Proof.Machine.execLimpClear tag payload s
    | .runRead tag payload => Sys2Proof.Machine.execRunRead tag payload s
    | .configSet tag payload => Sys2Proof.Machine.execConfigSet tag payload s
    | .configGet tag payload => Sys2Proof.Machine.execConfigGet tag payload s
    | .linesRead tag payload => Sys2Proof.Machine.execLinesRead tag payload s
    | .channelOpen tag payload => Sys2Proof.Machine.execChannelOpen tag payload s
    | .channelClose tag payload => Sys2Proof.Machine.execChannelClose tag payload s
    | .channelRead tag payload => Sys2Proof.Machine.execChannelRead tag payload s
    | .demand tag payload => Sys2Proof.Machine.execDemand tag payload s
    | .grantAsk tag payload => Sys2Proof.Machine.execGrantAsk tag payload s
    | .grantConfirm tag payload => Sys2Proof.Machine.execGrantConfirm tag payload s
    | .grantRelease tag payload => Sys2Proof.Machine.execGrantRelease tag payload s
    | .grantWithdraw tag payload => Sys2Proof.Machine.execGrantWithdraw tag payload s
    | .pacingClear tag payload => Sys2Proof.Machine.execPacingClear tag payload s
    | .arbiterSet tag payload => Sys2Proof.Machine.execArbiterSet tag payload s
    | .planOrganise tag payload => Sys2Proof.Machine.execPlanOrganise tag payload s
    | .segmentAdd tag payload => Sys2Proof.Machine.execSegmentAdd tag payload s
    | .pageClear tag payload => Sys2Proof.Machine.execPageClear tag payload s
    | .pageSwap tag payload => Sys2Proof.Machine.execPageSwap tag payload s
    | .positionFix tag payload => Sys2Proof.Machine.execPositionFix tag payload s
    | .horizonRead tag payload => Sys2Proof.Machine.execHorizonRead tag payload s
    | .payloadSet tag payload => Sys2Proof.Machine.execPayloadSet tag payload s
    | .consumptionSet tag payload => Sys2Proof.Machine.execConsumptionSet tag payload s
    | .splitRead tag payload => Sys2Proof.Machine.execSplitRead tag payload s
    | .zoneTableSet tag payload => Sys2Proof.Machine.execZoneTableSet tag payload s
    | .engineRead tag payload => Sys2Proof.Machine.execEngineRead tag payload s
    | .engineRearm tag payload => Sys2Proof.Machine.execEngineRearm tag payload s
    | .unitSet tag payload => Sys2Proof.Machine.execUnitSet tag payload s
    | .unitRead tag payload => Sys2Proof.Machine.execUnitRead tag payload s
    | .laneRestore tag payload => Sys2Proof.Machine.execLaneRestore tag payload s
    | .eventsRead tag payload => Sys2Proof.Machine.execEventsRead tag payload s
    | .noticeMaskSet tag payload => Sys2Proof.Machine.execNoticeMaskSet tag payload s
    | .alertMaskSet tag payload => Sys2Proof.Machine.execAlertMaskSet tag payload s
    | .undefinedKind kind tag payload => Sys2Proof.Machine.execUndefinedKind kind tag payload s
    | .hostFrameComplete lastByte => Sys2Proof.Machine.execHostFrameComplete lastByte s
    | .frameGap => Sys2Proof.Machine.execFrameGap s
    | .receiverHuntResume => Sys2Proof.Machine.execReceiverHuntResume s
    | .hostLineBreak => Sys2Proof.Machine.execHostLineBreak s
    | .transmissionStart => Sys2Proof.Machine.execTransmissionStart s
    | .inputRawChange line level => Sys2Proof.Machine.execInputRawChange line level s
    | .debounceExpiry line => Sys2Proof.Machine.execDebounceExpiry line s
    | .tractionDemandTimeout => Sys2Proof.Machine.execTractionDemandTimeout s
    | .brakeDemandTimeout => Sys2Proof.Machine.execBrakeDemandTimeout s
    | .confirmTimerExpiry channel => Sys2Proof.Machine.execConfirmTimerExpiry channel s
    | .exhaustionExpiry channel => Sys2Proof.Machine.execExhaustionExpiry channel s
    | .solveCompletion => Sys2Proof.Machine.execSolveCompletion s
    | .crankLimitExpiry => Sys2Proof.Machine.execCrankLimitExpiry s
    | .restExpiry => Sys2Proof.Machine.execRestExpiry s
    | .warmLimitExpiry => Sys2Proof.Machine.execWarmLimitExpiry s
    | .minRunExpiry => Sys2Proof.Machine.execMinRunExpiry s
    | .stopLimitExpiry => Sys2Proof.Machine.execStopLimitExpiry s
    | .frameTimerExpiry => Sys2Proof.Machine.execFrameTimerExpiry s
    | .linkTransmissionEnd lane heard => Sys2Proof.Machine.execLinkTransmissionEnd lane heard s
    | .transmitLimitCutoff lane => Sys2Proof.Machine.execTransmitLimitCutoff lane s
    | .reportReceived record => Sys2Proof.Machine.execReportReceived record s
    | .reportWaitExpiry => Sys2Proof.Machine.execReportWaitExpiry s
    | .hostByteTaken byte => Sys2Proof.Machine.execHostByteTaken byte s
    | .resetNAsserted => Sys2Proof.Machine.execResetNAsserted s

end Sys2Proof.Machine
end

