-- ==== Sys2Proof/Machine/Step.lean ====
section
/-! DEFINITION. One step of the part: the command at the front of the queue is taken; with none waiting, one millisecond
passes. -/

namespace Sys2Proof.Machine

/-- One millisecond passes: the time tag counts on, and wraps to 0 after 4294967295 (00_scope.md, "Time tags"; log 2). -/
def tick (s : State) : State := { s with now := s.now + 1#32 }

/-- The command at the front of the queue runs on the state with the queue's rest; an empty queue lets time pass
(DESIGN CHOICE, log 2). -/
def step (s : State) : Host.Outcome State Fault Refusal :=
  match s.pending with
  | [] => .next (tick s)
  | c :: rest => exec c { s with pending := rest }

/-- The command that a word spells, put at the front of the queue; no word spells one, so s is unchanged. -/
def State.withFetchWord (s : State) (nbits w : Nat) : State :=
  match decodeTableWord nbits w with
  | some c => { s with pending := c :: s.pending }
  | none => s

end Sys2Proof.Machine
end

