-- ==== Sys2Proof/Safety.lean ====
section
/-! DEFINITION. The vocabulary of the statements about the part: when a request executes and how it is answered, what an
act leaves unchanged, what a snapshot, a revocation, a reserve, a range check and the end of an attempt come to by the rules
(R8 to R12, R67, R68, R88 to R93, R101, R150, R151, R159, R166), the table of the configuration items, and the laws of the
state that the manual states (R18, R19, R50, R51, R72, R75, R103, R108, R126, R154, R173, R183, R186, R187). -/

namespace Sys2Proof.Safety

open Sys2Proof.Machine

/-! ## Requests and replies -/

/-- The next step of the port is the execution of this request (R177), and RESET_N is not held low. -/
def Ready (kind tag : Byte) (payload : List Byte) (s : State) : Prop :=
  s.resetHeld = false ∧ s.port.executing = none ∧ s.port.received.head? = some ⟨kind, tag, payload⟩ ∧
    s.port.replies.length < 3

/-- The port after a request whose act left it as p: the request has left the receive queue, and its reply, with these
payload bytes, stands at the tail of the reply queue (R177, R178). A notice that found the line free has gone before the
reply (R179; log 5). -/
def repliedPort (kind tag : Byte) (payload : List Byte) (p : Port) : Port :=
  { lineTakes p with
    received := p.received.tail, executing := none, replies := p.replies ++ [⟨kind + 0x80#8, tag, payload⟩] }

/-- The state after a request that changes nothing but the port's queues. -/
def replied (kind tag : Byte) (payload : List Byte) (s : State) : State :=
  { s with port := repliedPort kind tag payload s.port }

/-- A port but for its notice slot and the frame in transmission. -/
def withoutNotices (p : Port) : Port := { p with notice := none, transmitting := none }

/-- From p to q the port has only taken notices (R180): all but the notice slot is unchanged, and a line that was free may
have begun to send a notice (R179). -/
def NoticesTaken (p q : Port) : Prop :=
  withoutNotices q = withoutNotices p ∧
    (q.transmitting = p.transmitting ∨
      (p.transmitting = none ∧ p.replies = [] ∧ ∃ e, q.transmitting = some (noticeFrame e)))

/-- From s to t a request was answered with these payload bytes; the port may have taken notices before the reply. -/
def Answered (kind tag : Byte) (payload : List Byte) (s t : State) : Prop :=
  ∃ p, NoticesTaken s.port p ∧ t.port = repliedPort kind tag payload p

/-- From s to t the port has at most taken notices. -/
def PortKept (s t : State) : Prop := NoticesTaken s.port t.port

/-! ## What an act leaves unchanged -/

/-- The groups of state that an act may write, besides the Event Stack's entries and OVERRUN flag, the notice slot, ALERT,
and the solve in flight with REPEAT. -/
structure Writes where
  run : Bool := false
  lines : Bool := false
  items : Bool := false
  demand : Bool := false
  aux : Bool := false
  arbiter : Bool := false
  horizon : Bool := false
  solver : Bool := false
  engine : Bool := false
  link : Bool := false
  deriving DecidableEq, Repr

/-- What the acts of a frame write: a quiet frame may end in STANDBY, a loss may enter LIMP or detach the engine. -/
abbrev frameWrites : Writes :=
  { run := true, demand := true, aux := true, arbiter := true, engine := true, link := true }

/-- What a report may write: besides the acts of the frame, the Tracker takes a distance. -/
abbrev reportWrites : Writes :=
  { run := true, demand := true, aux := true, arbiter := true, horizon := true, engine := true, link := true }

/-- The Solver's state but for the solve in flight and REPEAT. -/
def lasting (x : Solver) : Solver := { x with solve := none, repeatMark := false }

/-- From s to t every group of state outside those named is unchanged. -/
structure Unchanged (w : Writes) (s t : State) : Prop where
  pending : t.pending = s.pending
  now : t.now = s.now
  resetHeld : t.resetHeld = s.resetHeld
  alertMask : t.stack.alertMask = s.stack.alertMask
  limpOut : w.run = false → t.outputs.limpOut = s.outputs.limpOut
  run : w.run = false → t.run = s.run
  lines : w.lines = false → t.lines = s.lines
  items : w.items = false → t.items = s.items
  demand : w.demand = false → t.demand = s.demand
  aux : w.aux = false → t.aux = s.aux
  arbiter : w.arbiter = false → t.arbiter = s.arbiter
  horizon : w.horizon = false → t.horizon = s.horizon
  solver : w.solver = false → lasting t.solver = lasting s.solver
  engine : w.engine = false → t.engine = s.engine
  link : w.link = false → t.link = s.link

/-! ## Entries and triggers -/

/-- From s to t these entries were pushed, in this order, where the stack has room for them below its half (R183, R184). -/
def Logged (l : List Entry) (s t : State) : Prop :=
  s.stack.entries.length + l.length < 64 → t.stack.entries = s.stack.entries ++ l

/-- From s to t this entry was pushed; where nothing was overwritten it stands behind the entries of s (R183). -/
def Pushed (e : Entry) (s t : State) : Prop :=
  t.stack.overrun = false → e ∈ t.stack.entries.drop s.stack.entries.length

/-- No new entry of this kind was pushed from s to t, where nothing was overwritten (R183). -/
def NonePushed (kind : EventKind) (s t : State) : Prop :=
  t.stack.overrun = false → ∀ e ∈ t.stack.entries.drop s.stack.entries.length, e.kind ≠ kind

/-- The snapshot that a solve takes when it starts while the part stands as s: each value from the block that owns it, the
traction operand 0.0 N·m while PLUG is asserted (R36, R44, R101). -/
def snapshotAt (s : State) : Snapshot where
  tag := s.now
  runState := s.run.state
  context := s.horizon.context
  traction := if s.lines.plug.level then some 0 else s.demand.traction.value
  brake := s.demand.brake.value
  svc := s.lines.svc.level
  shaftSpeed := s.link.miuMeas.shaftSpeed
  motoring := s.link.miuMeas.motoring
  generating := s.link.miuMeas.generating
  engineSpeed := s.link.euMeas.engineSpeed
  available := s.link.euMeas.available
  soc := s.link.buMeas.soc
  discharge := s.link.buMeas.discharge
  chargeLimit := s.link.buMeas.chargeLimit
  engine := s.engine.state
  batterySum := grantedSum s.aux .battery
  generationSum := grantedSum s.aux .generation
  latch := s.solver.latch
  table := s.solver.table
  fitMode := s.items.fitMode
  trapping := s.items.trapping
  warmCap := s.items.warmCap
  engineBaseTorque := s.items.engineBaseTorque
  chargePower := s.items.chargePower
  parkedChargePower := s.items.parkedChargePower
  limpCap := s.items.limpCap

/-- From s to t a trigger was taken (R100): a solve has started, or REPEAT is set for the one in flight. -/
def TriggerTaken (s t : State) : Prop :=
  (s.solver.solve = none → t.solver.solve.isSome = true) ∧
    (s.solver.solve.isSome = true → t.solver.solve = s.solver.solve ∧ t.solver.repeatMark = true)

/-- From s to t a trigger was taken, the first of them while the part stood as m: a solve that it started has its snapshot
from there (R100, R101). -/
def TriggeredAs (m s t : State) : Prop :=
  (s.solver.solve = none → t.solver.solve = some (snapshotAt m)) ∧
    (s.solver.solve.isSome = true → t.solver.solve = s.solver.solve ∧ t.solver.repeatMark = true)

/-- From s to t a trigger was taken, with every value of the snapshot as t has it. -/
abbrev Triggered (s t : State) : Prop := TriggeredAs t s t

/-- From s to t no trigger was taken. -/
def Untriggered (s t : State) : Prop :=
  t.solver.solve = s.solver.solve ∧ t.solver.repeatMark = s.solver.repeatMark

/-- From s to t a trigger was taken where either granted sum has changed, and none otherwise (R52). -/
def GrantChangeHandedOn (s t : State) : Prop :=
  if grantedSum t.aux .battery = grantedSum s.aux .battery ∧
      grantedSum t.aux .generation = grantedSum s.aux .generation then Untriggered s t
  else Triggered s t

/-! ## The request kinds -/

/-- A request kind: its code, its payload length and its command (10_message_and_record_layouts.md). -/
structure RequestRow where
  kind : Byte
  length : Nat
  command : Byte → List Byte → Instr

/-- The 38 request kinds. -/
def requestRows : List RequestRow :=
  [⟨0x01, 0, .identify⟩, ⟨0x02, 0, .run⟩, ⟨0x03, 0, .halt⟩, ⟨0x04, 0, .limpClear⟩, ⟨0x05, 0, .runRead⟩,
    ⟨0x06, 5, .configSet⟩, ⟨0x07, 1, .configGet⟩, ⟨0x08, 0, .linesRead⟩, ⟨0x09, 5, .channelOpen⟩,
    ⟨0x0A, 1, .channelClose⟩, ⟨0x0B, 1, .channelRead⟩, ⟨0x0C, 3, .demand⟩, ⟨0x0D, 3, .grantAsk⟩,
    ⟨0x0E, 1, .grantConfirm⟩, ⟨0x0F, 1, .grantRelease⟩, ⟨0x10, 1, .grantWithdraw⟩, ⟨0x11, 1, .pacingClear⟩,
    ⟨0x12, 3, .arbiterSet⟩, ⟨0x13, 1, .planOrganise⟩] ++
  [⟨0x14, 12, .segmentAdd⟩, ⟨0x15, 0, .pageClear⟩, ⟨0x16, 1, .pageSwap⟩, ⟨0x17, 4, .positionFix⟩,
    ⟨0x18, 2, .horizonRead⟩, ⟨0x19, 1, .payloadSet⟩, ⟨0x1A, 18, .consumptionSet⟩, ⟨0x1B, 0, .splitRead⟩,
    ⟨0x1C, 1, .holdsTest⟩, ⟨0x1D, 1, .holdsClear⟩, ⟨0x1E, 2, .zoneTableSet⟩, ⟨0x1F, 0, .engineRead⟩,
    ⟨0x20, 0, .engineRearm⟩, ⟨0x21, 9, .unitSet⟩, ⟨0x22, 1, .unitRead⟩, ⟨0x23, 1, .laneRestore⟩,
    ⟨0x24, 1, .eventsRead⟩, ⟨0x25, 4, .noticeMaskSet⟩, ⟨0x26, 4, .alertMaskSet⟩]

/-! ## The configuration items -/

/-- A configuration item: its code, the lowest and highest value and the value after full reset, as codes, and whether it
is STANDBY-ONLY (10_message_and_record_layouts.md, "Configuration items", and the tables of the owning chapters). -/
structure ItemRow where
  code : Nat
  item : Item
  low : Int
  high : Int
  initial : Nat
  standbyOnly : Bool

/-- The 38 configuration items (R10, R14, R27, R37, R59, R84, R90, R120, R127, R153, R187). -/
def itemRows : List ItemRow :=
  [⟨0x01, .fitMode, 0, 1, 0, false⟩, ⟨0x02, .trapping, 0, 1, 0, false⟩, ⟨0x03, .ignEdge, 0, 2, 0, false⟩,
    ⟨0x04, .svcEdge, 0, 2, 0, false⟩, ⟨0x05, .plugEdge, 0, 2, 0, false⟩, ⟨0x06, .auxEdge, 0, 2, 0, false⟩,
    ⟨0x07, .ignEvent, 0, 1, 1, false⟩, ⟨0x08, .svcEvent, 0, 1, 1, false⟩, ⟨0x09, .plugEvent, 0, 1, 1, false⟩,
    ⟨0x0A, .auxEvent, 0, 1, 1, false⟩, ⟨0x0B, .demandTimeout, 10, 500, 50, true⟩,
    ⟨0x0C, .confirmTimeout, 100, 5000, 500, true⟩, ⟨0x0D, .defaultZone, 0, 3, 1, true⟩] ++
  [⟨0x0E, .batteryCapacity, 5000, 40000, 18000, true⟩, ⟨0x0F, .socFloor, 50, 900, 200, false⟩,
    ⟨0x10, .chargeMargin, 0, 200, 50, false⟩, ⟨0x11, .lookAhead, 1000, 50000, 15000, false⟩,
    ⟨0x12, .engineBaseTorque, 0, 800, 240, false⟩, ⟨0x13, .parkedChargeSpeed, 900, 2500, 1300, false⟩,
    ⟨0x14, .limpCap, 0, 800, 300, true⟩, ⟨0x15, .firstPath, 0, 1, 0, true⟩, ⟨0x16, .retry1, 0, 1, 1, true⟩,
    ⟨0x17, .retry2, 0, 2, 2, true⟩, ⟨0x18, .crankLimit, 300, 2000, 900, true⟩,
    ⟨0x19, .crankTorque, 20, 150, 80, true⟩] ++
  [⟨0x1A, .restTime, 200, 2000, 500, true⟩, ⟨0x1B, .lightOff, 250, 500, 350, false⟩,
    ⟨0x1C, .warmLimit, 10, 300, 90, false⟩, ⟨0x1D, .warmCap, 0, 220, 60, false⟩, ⟨0x1E, .minRun, 0, 120, 20, false⟩,
    ⟨0x1F, .framePeriod, 5, 40, 10, false⟩, ⟨0x20, .preferredLane, 0, 1, 0, false⟩,
    ⟨0x21, .responseLimit, 100, 1000, 300, true⟩, ⟨0x22, .lossLimit, 1, 8, 3, true⟩,
    ⟨0x23, .alertPolarity, 0, 1, 0, false⟩, ⟨0x24, .limpOutPolarity, 0, 1, 0, false⟩,
    ⟨0x25, .chargePower, 0, 300, 120, false⟩, ⟨0x26, .parkedChargePower, 0, 300, 80, false⟩]

/-! ## Grants (R34, R50, R51) -/

/-- The run states in which no grant and no ask stands (R50, R69). -/
def shutDown (r : RunState) : Prop := r = .standby ∨ r = .winddown

/-- R34, R50, R51: ten auxiliary channels; each ask is that of one channel, 2 to 11, which is QUEUED, with its class, and
each QUEUED channel has an ask; at most 16 asks; a CLOSED channel is NONE; no granted sum exceeds its pool's budget; nothing is
granted or queued in STANDBY and WINDDOWN. -/
def GrantLaw (s : State) : Prop :=
  s.aux.length = 10 ∧
  (s.arbiter.queue.map (·.channel)).Nodup ∧
  (∀ ask ∈ s.arbiter.queue, 2 ≤ ask.channel ∧ ask.channel ≤ 11 ∧ (auxAt s ask.channel).grant = .queued ∧
    ask.cls = (auxAt s ask.channel).cls) ∧
  (∀ ch, 2 ≤ ch → ch ≤ 11 → (auxAt s ch).grant = .queued → ch ∈ s.arbiter.queue.map (·.channel)) ∧
  s.arbiter.queue.length ≤ 16 ∧
  (∀ c ∈ s.aux, c.isOpen = false → c.grant = .none) ∧
  grantedSum s.aux .battery ≤ s.arbiter.batteryBudget ∧
  grantedSum s.aux .generation ≤ s.arbiter.generationBudget ∧
  (shutDown s.run.state → s.arbiter.queue = [] ∧ ∀ c ∈ s.aux, c.grant = .none)

/-! ## Revocation (R67 to R69) -/

/-- A grant is revoked before another one: DEFERRABLE before ESSENTIAL, within a class OFFERED before HELD, and within
those the later offer first (R67; the place of an offer among the offers is the model's field, log 10). -/
def RevokedFirst (c d : AuxChannel) : Prop :=
  (c.cls = .deferrable ∧ d.cls = .essential) ∨
    (c.cls = d.cls ∧ grantCode c.grant = 2 ∧ grantCode d.grant = 3) ∨
    (c.cls = d.cls ∧ grantCode c.grant = grantCode d.grant ∧
      ∃ x ∈ grantTerms c.grant, ∃ y ∈ grantTerms d.grant, y.order < x.order)

/-- These channels are, each once, the auxiliary channels with one of these grants, in the order of revocation (R67). -/
def InRevocationOrder (eligible : AuxChannel → Bool) (channels : List Nat) (s : State) : Prop :=
  channels.Nodup ∧ (∀ ch, ch ∈ channels ↔ 2 ≤ ch ∧ ch ≤ 11 ∧ eligible (auxAt s ch) = true) ∧
    channels.Pairwise fun a b => ¬ RevokedFirst (auxAt s b) (auxAt s a)

/-- A channel after the end of its grant or ask: NONE, the used energy of a HELD grant brought up to date (R64, R67). -/
def grantEnded (now : TimeTag) (c : AuxChannel) : AuxChannel := { c with used := usedAt now c, grant := .none }

/-- The GRANT_REVOKED entries of these channels: the reason, and the grant state revoked (R67 to R69). -/
def revokedEntries (reason : Nat) (channels : List Nat) (s : State) : List Entry :=
  channels.map fun ch => ⟨s.now, .grantRevoked, BitVec.ofNat 16 ch, detail4 reason (grantCode (auxAt s ch).grant) 0 0⟩

/-- The grant stands in this pool. -/
def fromPool (pool : Pool) (c : AuxChannel) : Bool := (grantTerms c.grant).any fun terms => decide (terms.pool = pool)

/-- From s to t the grants of these channels were revoked, in this order, for this reason (R67). -/
structure Revoked (reason : Nat) (channels : List Nat) (s t : State) : Prop where
  ended : ∀ ch ∈ channels, auxAt t ch = grantEnded s.now (auxAt s ch)
  kept : ∀ ch, 2 ≤ ch → ch ≤ 11 → ch ∉ channels → auxAt t ch = auxAt s ch
  entries : Logged (revokedEntries reason channels s) s t
  untriggered : Untriggered s t
  port : PortKept s t
  others : Unchanged { aux := true } s t

/-- From s to t these grants of a pool were revoked, in the order of revocation, until its granted sum was no more than
the budget, and no further (R67). -/
def RevokedToBudget (pool : Pool) (budget : Nat) (revoked : List Nat) (s t : State) : Prop :=
  ∃ kept, InRevocationOrder (fromPool pool) (revoked ++ kept) s ∧ Revoked 0 revoked s t ∧
    grantedSum t.aux pool ≤ budget ∧
    ∀ shorter rest, revoked = shorter ++ rest → rest ≠ [] →
      budget < ((rest ++ kept).map fun ch => powerFrom pool (auxAt s ch)).sum

/-- The GRANT_REVOKED entries of asks removed from the queue: state QUEUED (R68, R69). -/
def removedEntries (reason : Nat) (asks : List Ask) (now : TimeTag) : List Entry :=
  asks.map fun ask => ⟨now, .grantRevoked, BitVec.ofNat 16 ask.channel, detail4 reason 1 0 0⟩

/-! ## Forced stops and the end of a drive (R22, R42, R69, R138) -/

/-- The Sequencer after a forced stop (R138). -/
def stopped (now : TimeTag) (e : Engine) : Engine :=
  match e.state with
  | .cranking | .warming | .running | .holding => { e with state := .stopping, timer := some (now + 3000#32) }
  | .resting => { e with state := .off, timer := none }
  | .off | .stopping | .barred | .detached => e

/-- The ENGINE_STATE entry of a forced stop, where the state changes (R138, R144). -/
def stopEntries (now : TimeTag) (cause : EngineCause) (e : Engine) : List Entry :=
  if (stopped now e).state = e.state then []
  else [⟨now, .engineState, BitVec.ofNat 16 (engineCode (stopped now e).state),
    detail4 (engineCode e.state) (engineCauseCode cause) 0 0⟩]

/-- The demand channels after entry to WINDDOWN (R42). -/
def unloaded (d : Demand) : Demand :=
  ⟨⟨if d.traction.fresh then some 0 else d.traction.value, d.traction.arrival, false, none⟩,
    ⟨some 0, d.brake.arrival, false, none⟩, d.lost, d.lostAt⟩

/-- The RUN_STATE entry of a change to a run state (R24). -/
def runEntry (now : TimeTag) (code : Word16) (causes : LimpCauses) : Entry :=
  ⟨now, .runState, code, BitVec.ofNat 32 (causesCode causes)⟩

/-- Where the first trigger of an entry to WINDDOWN was taken: the Channel Table acts first, then the Arbiter, then the
Sequencer (log 6). -/
def windDownTriggered (s t : State) : State :=
  if (unloaded s.demand).traction.value ≠ s.demand.traction.value ∨ s.demand.brake.value ≠ some 0 then
    { t with aux := s.aux, engine := s.engine }
  else if grantedSum s.aux .battery ≠ 0 ∨ grantedSum s.aux .generation ≠ 0 then { t with engine := s.engine }
  else t

/-- From s to t the run state has become WINDDOWN, and every block has acted on it, after these entries: every grant is
revoked and every ask removed, with their entries (R22, R24, R42, R69, R138). -/
structure WoundDown (first : List Entry) (s t : State) : Prop where
  run : t.run = ⟨.winddown, s.run.causes, s.now⟩
  limpOut : t.outputs.limpOut = false
  demand : t.demand = unloaded s.demand
  engine : t.engine = stopped s.now s.engine
  grants : ∀ c ∈ t.aux, (grantTerms c.grant).isSome = false
  queue : t.arbiter.queue = []
  budgets : t.arbiter.batteryBudget = s.arbiter.batteryBudget ∧
    t.arbiter.generationBudget = s.arbiter.generationBudget
  triggered : TriggeredAs (windDownTriggered s t) s t
  others : Unchanged { run := true, demand := true, aux := true, arbiter := true, engine := true } s t
  channels : GrantLaw s → ∀ ch, 2 ≤ ch → ch ≤ 11 → auxAt t ch = grantEnded s.now (auxAt s ch)
  entries : GrantLaw s → ∃ revoked, InRevocationOrder isGranted revoked s ∧
    Logged (first ++ runEntry s.now 3#16 s.run.causes :: (revokedEntries 2 revoked s ++
      removedEntries 2 s.arbiter.queue s.now ++ stopEntries s.now .winddown s.engine)) s t

/-! ## Debounced inputs (R26, R27) -/

/-- The LINE_EDGE entry of a debounced change, where the input's items select it (R27). -/
def edgeEntries (line : Line) (level : Bool) (s : State) : List Entry :=
  if eventOfLine s.items line && (match edgeOfLine s.items line with
      | .rising => level
      | .falling => !level
      | .both => true) then
    [⟨s.now, .lineEdge, BitVec.ofNat 16 (lineCode line), if level then 1#32 else 0#32⟩]
  else []

/-- The state in which an input has just taken its settling level (R26). -/
def debounced (line : Line) (s : State) : State :=
  setInput line { inputOf s.lines line with level := (inputOf s.lines line).settling, changedAt := s.now } s

/-! ## The checks of GRANT_ASK (R53) -/

/-- The first check of GRANT_ASK that fails, as its result code (R53). -/
def askCheck (ch power : Nat) (s : State) : Option Byte :=
  if ch < 2 ∨ 11 < ch then some 3#8
  else if power < 1 ∨ 300 < power then some 3#8
  else if (auxAt s ch).isOpen = false then some 6#8
  else if s.run.state = .standby ∨ s.run.state = .winddown then some 2#8
  else if s.run.state = .limp ∧ (auxAt s ch).cls = .deferrable then some 2#8
  else if (auxAt s ch).grant ≠ .none then some 7#8
  else if (auxAt s ch).allowance ≠ 0 ∧ (auxAt s ch).allowance ≤ (auxAt s ch).used then some 9#8
  else if 16 ≤ s.arbiter.queue.length then some 5#8
  else none

/-! ## Arbitration passes (R50, R55) -/

/-- An ask is the HEAD of its class: no older ask of the queue is of its class (R50). -/
def IsHead (ask : Ask) (s : State) : Prop :=
  ∃ before after, s.arbiter.queue = before ++ ask :: after ∧ ∀ a ∈ before, a.cls ≠ ask.cls

/-- An ask FITS a pool: its channel permits the pool, and the granted sum with its power is within the budget (R55). -/
def FitsPool (ask : Ask) (pool : Pool) (s : State) : Prop :=
  match pool with
  | .battery => (auxAt s ask.channel).pools.battery = true ∧
      grantedSum s.aux .battery + ask.power ≤ s.arbiter.batteryBudget
  | .generation => (auxAt s ask.channel).pools.generation = true ∧
      grantedSum s.aux .generation + ask.power ≤ s.arbiter.generationBudget

/-- A pass gives the ask this pool: GENERATION where it fits it, else BATTERY (R55). -/
def TakesPool (ask : Ask) (pool : Pool) (s : State) : Prop :=
  FitsPool ask pool s ∧ (pool = .battery → ¬ FitsPool ask .generation s)

/-! ## Segment records (R74) -/

/-- Every field of a segment record is in its range. -/
def SegmentInRange (g : Segment) : Prop :=
  1 ≤ g.id ∧ g.id ≤ 65535 ∧ 10 ≤ g.length ∧ g.length ≤ 20000 ∧ -3 ≤ g.grade ∧ g.grade ≤ 3 ∧ g.stops ≤ 60 ∧
    g.lifts ≤ 60 ∧ ∀ f ∈ g.floor, 50 ≤ f ∧ f ≤ 900

/-! ## Swaps (R78, R79) -/

/-- The store and position after a swap made by PAGE_SWAP (R78, R79). -/
def swappedHorizon (h : Horizon) : Horizon :=
  { h with
    activeA := !h.activeA
    pageA := if h.activeA then [] else h.pageA
    pageB := if h.activeA then h.pageB else []
    swapPending := false, distance := 0, carry := 0 }

/-! ## The end of an act of the Horizon Tracker (R86, R87, R93 to R97, R138) -/

/-- The active zone of the context moves into a zone that is no engine zone. -/
def leavesEngineZones (c : ZoneContext) (s : State) : Bool :=
  decide (c.zone ≠ s.horizon.context.zone) && !engineZone s.solver.table c.zone

/-- From s to t the Tracker has acted, with the lists, position and tables of h and these entries first: the reserve and
the distance to the run are computed afresh, the zone context is formed and handed on if it changed, ZONE_ENTRY and
RESERVE_SHORT are pushed where due, and a marked zone change stops the engine, after the Solver's trigger (log 6). What the
reserve, the distance and the context come to is stated with PAYLOAD_SET. -/
structure Tracked (first : List Entry) (h : Horizon) (s t : State) : Prop where
  horizon : t.horizon =
    { h with reserve := reserveOf h, runDistance := runDistanceOf h, context := contextOf t.items h }
  engine : t.engine =
    if leavesEngineZones (contextOf t.items h) s then stopped s.now s.engine else s.engine
  handed : contextOf t.items h ≠ s.horizon.context → TriggeredAs { t with engine := s.engine } s t
  kept : contextOf t.items h = s.horizon.context → Untriggered s t
  entries : Logged (first ++
    (if (contextOf t.items h).zone = s.horizon.context.zone then []
     else [⟨s.now, .zoneEntry, BitVec.ofNat 16 (zoneCode (contextOf t.items h).zone),
       BitVec.ofNat 32 (contextOf t.items h).segmentId⟩]) ++
    (if (contextOf t.items h).short && !s.horizon.context.short then
       [⟨s.now, .reserveShort, BitVec.ofNat 16 (((zeroRun (lookAhead h)).head?.map (·.id)).getD 0),
         BitVec.ofNat 32 (reserveOf h)⟩]
     else []) ++
    (if leavesEngineZones (contextOf t.items h) s then stopEntries s.now .zone s.engine else [])) s t

/-! ## The reserve (R88, R89, R91, R92) -/

/-- The LOOK-AHEAD SEQUENCE (R91). -/
def sequenceAhead (h : Horizon) : List Segment :=
  match h.paged, h.swapPending, h.activeA with
  | false, _, _ => h.single
  | true, false, true => h.pageA
  | true, false, false => h.pageB
  | true, true, true => if h.pageA = [] then [] else h.pageA.take 1 ++ h.pageB
  | true, true, false => if h.pageB = [] then [] else h.pageB.take 1 ++ h.pageA

/-- The active list: the active page, or the one list (R72). -/
def listAhead (h : Horizon) : List Segment :=
  match h.paged, h.activeA with
  | false, _ => h.single
  | true, true => h.pageA
  | true, false => h.pageB

/-- The rate of a grade class, −3 to +3, in Wh/km (R89). -/
def rateFor (c : Consumption) (grade : Int) : Nat :=
  if grade = -3 then c.m3 else if grade = -2 then c.m2 else if grade = -1 then c.m1 else if grade = 0 then c.g0
  else if grade = 1 then c.p1 else if grade = 2 then c.p2 else c.p3

/-- Wh times 100000 as a whole number of Wh: m × Wh/km × % is that; rounded once, halves upward (R3). -/
def wattHours (scaled : Nat) : Nat := (2 * scaled + 100000) / 200000

/-- SEGMENT ENERGY over a length in m, at most 65000 Wh (R88, R92). -/
def energyAhead (h : Horizon) (g : Segment) (length : Nat) : Nat :=
  min 65000 (wattHours (length * rateFor h.consumption g.grade * (100 + 15 * h.payloadClass) +
    (g.stops * h.consumption.stop + g.lifts * h.consumption.lift) * 100000))

/-- The energies of a run that begins with this segment: where the active segment is in the run, it counts the length still
ahead (R92). -/
def runEnergy (h : Horizon) (before : List Segment) (first : Segment) (more : List Segment) : List Nat :=
  energyAhead h first (if before = [] then first.length - h.distance else first.length) ::
    more.map fun g => energyAhead h g g.length

/-- The distance to the run from the segments before it (R93). -/
def distanceAhead (h : Horizon) : List Segment → Nat
  | [] => 0
  | active :: between => active.length - h.distance + (between.map (·.length)).sum

/-! ## What a solve works from (R3, R4, R8, R107, R109) -/

/-- A rounded result brought within its bounds (R8). Where a negative limit puts the lower bound above the upper one, the
upper bound is tested first (the model's choice, log 12). -/
def clip (lo hi v : Int) : Int := if hi < v then hi else if v < lo then lo else v

/-- A bound within the range of its kind, −1000.0 to +1000.0 N·m or −200.0 to +200.0 kW in steps (R8). -/
def inKind (b : Int) : Int := clip (-2000) 2000 b

/-- The traction operand, capped at LIMP_CAP in LIMP and where the depletion test holds (R109). -/
def cappedTraction (n : Snapshot) (t : Int) : Int :=
  if (n.runState = .limp ∨ (n.context.zone = .zeroEmission ∧ ∃ soc ∈ n.soc, soc ≤ n.context.floor)) ∧
    Int.ofNat n.limpCap < t then n.limpCap else t

/-- Traction taken: the capped operand, or 0 (R6, R109). -/
def tractionUsed (n : Snapshot) : Int :=
  match n.traction with
  | none => 0
  | some t => clip 0 2000 (cappedTraction n t)

/-- Brake taken: the operand, or 0 (R6, R109); not performed in LIMP. -/
def brakeUsed (n : Snapshot) : Int :=
  if n.runState = .limp then 0 else clip 0 2000 (n.brake.getD 0)

/-- The EV test (R107), its powers multiplied by 9549. -/
def EvTestMet (n : Snapshot) : Prop :=
  ∃ m v d, n.motoring = some m ∧ n.shaftSpeed = some v ∧ n.discharge = some d ∧ tractionUsed n ≤ m ∧
    tractionUsed n * v * 5 + Int.ofNat n.batterySum * 9549 ≤ d * 9549

/-- The engine is AVAILABLE to a solve (R108). -/
abbrev EngineAvailable (n : Snapshot) : Prop := n.engine = .running ∨ n.engine = .warming

/-- A share capped at WARM_CAP while the engine is WARMING (R114); WARM_CAP is in whole N·m. -/
def underWarmCap (n : Snapshot) (wanted : Int) : Int :=
  if n.engine = .warming then min wanted (2 * Int.ofNat n.warmCap) else wanted

/-- A power in 0.1 kW as a torque in 0.5 N·m, rounded; below 300 rpm it is 0 (R3, R4, R7). -/
def asTorque (power speed : Int) : Int := if speed < 300 then 0 else (⟨power * 9549, 5 * speed.toNat⟩ : Exact).round

/-- A torque in 0.5 N·m as a power in 0.1 kW, rounded (R3, R4). -/
def asPower (torque speed : Int) : Int := (⟨torque * speed * 5, 9549⟩ : Exact).round

/-- The engine torque of a wanted share taken on its own (R6, R8): a bound below 0 is 0, for the kind is non-negative. -/
def engineAlone (n : Snapshot) (wanted : Int) : Int :=
  match n.available with
  | none => 0
  | some a => clip 0 (max 0 (inKind a)) wanted

/-- The MG torque of a wanted share taken on its own (R6, R8). -/
def mgAlone (n : Snapshot) (wanted : Int) : Int :=
  match n.motoring, n.generating with
  | some m, some g => clip (inKind (-g)) (inKind m) wanted
  | _, _ => 0

/-- CHARGE_TORQUE and PARKED_CHARGE_TORQUE (R6, R113). -/
def chargeUsed (power : Nat) (speed : Qty) : Int :=
  match speed with
  | none => 0
  | some v => clip 0 2000 (asTorque power v)

/-- REGEN_TORQUE (R6, R111). -/
def regenUsed (n : Snapshot) : Int :=
  match n.generating, n.chargeLimit, n.shaftSpeed with
  | some g, some l, some v => clip (inKind (-g)) 0 (-(min (min (brakeUsed n) g) (asTorque l v)))
  | _, _, _ => 0

/-- The wanted engine share and wanted MG share of a solve whose two shares are both performed (R110 to R114). -/
def WantedPair (n : Snapshot) (mode : SplitMode) (engine mg : Int) : Prop :=
  ((mode = .assist ∨ mode = .limp) ∧ engine = underWarmCap n (min (tractionUsed n) n.engineBaseTorque) ∧
    mg = tractionUsed n - engine) ∨
  (mode = .charge ∧ engine = underWarmCap n (tractionUsed n + chargeUsed n.chargePower n.shaftSpeed) ∧
    mg = tractionUsed n - engine) ∨
  (mode = .parkedCharge ∧ engine = underWarmCap n (chargeUsed n.parkedChargePower n.engineSpeed) ∧ mg = -engine)

/-- MG_SHARE is performed: in every solve but one in ENGINE_ONLY with the engine available (R108, R112). -/
abbrev MgPerformed (n : Snapshot) : Prop := ¬ ((solveRecord n).mode = .engineOnly ∧ EngineAvailable n)

/-- ENGINE_SHARE is performed: with the engine wanted and available (R108). -/
abbrev EnginePerformed (n : Snapshot) : Prop := (solveRecord n).engineWanted = true ∧ EngineAvailable n

/-! ## The range checks of a solve (R5, R8, R117 to R119) -/

/-- The engine share that a solve wants (R112 to R114). -/
def wantedEngine (n : Snapshot) : Int :=
  match (solveRecord n).mode with
  | .charge => underWarmCap n (tractionUsed n + chargeUsed n.chargePower n.shaftSpeed)
  | .parkedCharge => underWarmCap n (chargeUsed n.parkedChargePower n.engineSpeed)
  | .engineOnly => underWarmCap n (tractionUsed n)
  | .assist | .limp | .ev | .regen => underWarmCap n (min (tractionUsed n) n.engineBaseTorque)

/-- The MG share that a solve wants (R111 to R113). -/
def wantedMg (n : Snapshot) : Int :=
  if (solveRecord n).mode = .regen then regenUsed n
  else if EnginePerformed n then
    (if (solveRecord n).mode = .parkedCharge then 0 else tractionUsed n) - wantedEngine n
  else tractionUsed n

/-- MG_ELECTRICAL_POWER (R6, R117). -/
def mgElectrical (n : Snapshot) : Int :=
  match n.shaftSpeed with
  | some v => if MgPerformed n then clip (-2000) 2000 (asPower (solveRecord n).mgTorque v) else 0
  | none => 0

/-- A range check: the rounded result of a computation performed with valid operands, and its bounds (R8). -/
structure RangeCheck where
  result : Int
  lower : Int
  upper : Int

/-- The result is above the upper bound, and below the lower one. -/
abbrev RangeCheck.Over (x : RangeCheck) : Prop := x.upper < x.result
abbrev RangeCheck.Under (x : RangeCheck) : Prop := x.result < x.lower ∧ ¬ x.Over

/-- The checks of ENGINE_SHARE and MG_SHARE as each stands alone (R8, R10, R111, R112). -/
def shareChecks (n : Snapshot) : List RangeCheck :=
  (match n.available with
    | some a => if EnginePerformed n then [⟨wantedEngine n, 0, max 0 (inKind a)⟩] else []
    | none => []) ++
  (match n.motoring, n.generating with
    | some m, some g => if MgPerformed n then [⟨wantedMg n, inKind (-g), inKind m⟩] else []
    | _, _ => [])

/-- The checks of TRACTION_TAKEN, BRAKE_TAKEN, CHARGE_TORQUE, PARKED_CHARGE_TORQUE and REGEN_TORQUE (R109, R111, R113). -/
def torqueChecks (n : Snapshot) : List RangeCheck :=
  (match n.traction with
    | some t => [⟨cappedTraction n t, 0, 2000⟩]
    | none => []) ++
  (match n.brake with
    | some b => if n.runState = .limp then [] else [⟨b, 0, 2000⟩]
    | none => []) ++
  (match n.shaftSpeed with
    | some v =>
      if (solveRecord n).mode = .charge ∧ EngineAvailable n then [⟨asTorque n.chargePower v, 0, 2000⟩] else []
    | none => []) ++
  (match n.engineSpeed with
    | some v =>
      if (solveRecord n).mode = .parkedCharge ∧ EngineAvailable n then
        [⟨asTorque n.parkedChargePower v, 0, 2000⟩] else []
    | none => []) ++
  (match n.generating, n.chargeLimit, n.shaftSpeed with
    | some g, some l, some v =>
      if (solveRecord n).mode = .regen then
        [⟨-(min (min (brakeUsed n) g) (asTorque l v)), inKind (-g), 0⟩] else []
    | _, _, _ => [])

/-- The checks of TRACTION_DELIVERED, MG_ELECTRICAL_POWER, EXPECTED_BATTERY_POWER, BATTERY_BUDGET and GENERATION_BUDGET
(R115, R117 to R119). -/
def powerChecks (n : Snapshot) : List RangeCheck :=
  (if (solveRecord n).mode = .parkedCharge ∧ EngineAvailable n then []
    else [⟨(solveRecord n).engineTorque + (solveRecord n).mgTorque, -2000, 2000⟩]) ++
  (match n.shaftSpeed with
    | some v => if MgPerformed n then [⟨asPower (solveRecord n).mgTorque v, -2000, 2000⟩] else []
    | none => []) ++
  (match n.discharge, n.chargeLimit with
    | some d, some l => [⟨mgElectrical n + n.batterySum, inKind (-l), inKind d⟩]
    | _, _ => []) ++
  (match n.discharge with
    | some d => [⟨if n.svc then 0 else max 0 (d - max (mgElectrical n) 0), 0, 2000⟩]
    | none => []) ++
  (match n.available, n.engineSpeed with
    | some a, some v =>
      if n.engine = .running ∧ (solveRecord n).clutch = .closed then
        [⟨asPower (a - (solveRecord n).engineTorque) v, 0, 2000⟩] else []
    | _, _ => [])

/-- The shares are fitted as a PROPORTIONAL pair with no INVALID bound (R11). -/
abbrev ScaledPair (n : Snapshot) : Prop :=
  n.fitMode = .proportional ∧ EnginePerformed n ∧ MgPerformed n ∧ n.available ≠ none ∧ n.motoring ≠ none ∧
    n.generating ≠ none

/-- Every limit of the snapshot that bounds a share is a non-negative magnitude of its kind (R5). -/
abbrev LimitsAreMagnitudes (n : Snapshot) : Prop :=
  (∀ a ∈ n.available, 0 ≤ a ∧ a ≤ 2000) ∧ (∀ m ∈ n.motoring, 0 ≤ m ∧ m ≤ 2000) ∧
    ∀ g ∈ n.generating, 0 ≤ g ∧ g ≤ 2000

/-! ## Start paths and engine reports (R126, R129, R131, R132, R135, R137) -/

/-- A start path is available (R129). -/
def PathAvailable (s : State) : StartPath → Prop
  | .primary => s.link.miu.health = .present ∧ ∃ m ∈ s.link.miuMeas.motoring, 0 < m
  | .alternate => s.lines.straps.beltFitted = true

/-- The present attempt uses a path: the one it names where available, else the other one (R129). -/
def UsesPath (s : State) (path : StartPath) : Prop :=
  PathAvailable s path ∧ (path = pathNamed s ∨ ¬ PathAvailable s (pathNamed s))

/-- The min-run expiry is unexpired (R126). -/
def MinRunAhead (s : State) (minRun : Option TimeTag) : Prop := ∃ expiry ∈ minRun, below s.now expiry = true

/-- The catalyst temperature held has reached LIGHT_OFF (R132, R135). -/
def CatalystReady (s : State) : Prop := ∃ c ∈ s.link.euMeas.catalyst, Int.ofNat s.items.lightOff ≤ c

/-- The last valid EU report carried FIRING, and FAULT. -/
def Firing (s : State) : Prop := s.link.eu.flags.getLsbD 5 = true
def Faulty (s : State) : Prop := s.link.eu.flags.getLsbD 1 = true

/-- An attempt remains after the present one (R133). -/
abbrev AttemptRemains (s : State) : Prop :=
  s.engine.attempt ≤ 1 ∨ (s.engine.attempt = 2 ∧ s.items.retry2 ≠ .off)

/-- An ENGINE_STATE entry: the state entered, the state left and the cause, as codes (R144). -/
def engineEntry (now : TimeTag) (entered left cause : Nat) : Entry :=
  ⟨now, .engineState, BitVec.ofNat 16 entered, detail4 left cause 0 0⟩

/-- From s to t a failed attempt in CRANKING has been taken, with this reason (R133). -/
def AttemptFailed (reason : Nat) (s t : State) : Prop :=
  Triggered s t ∧
  (AttemptRemains s →
    t.engine = { s.engine with
      state := .resting, timer := some (s.now + BitVec.ofNat 32 s.items.restTime) } ∧
    Logged [⟨s.now, .startFailed, BitVec.ofNat 16 s.engine.attempt, detail4 (pathCode s.engine.path) reason 0 0⟩,
      engineEntry s.now 2 1 3] s t) ∧
  (¬ AttemptRemains s →
    t.engine = { s.engine with state := .barred, bar := some .startFail, timer := none } ∧
    Logged [⟨s.now, .startFailed, BitVec.ofNat 16 s.engine.attempt, detail4 (pathCode s.engine.path) reason 0 0⟩,
      engineEntry s.now 7 1 3, ⟨s.now, .engineBarred, 1#16, BitVec.ofNat 32 s.engine.attempt⟩] s t)

/-- From s to t the engine has been ordered to stop from a state with this code, for this cause (R137). -/
def StopOrdered (left cause : Nat) (fault : Bool) (s t : State) : Prop :=
  t.engine = { s.engine with
    state := .stopping, timer := some (s.now + 3000#32), faultNoted := fault || s.engine.faultNoted } ∧
  Triggered s t ∧ Logged [engineEntry s.now 6 left cause] s t

/-! ## Lanes, attempts and transactions (R150, R151, R155, R159, R166) -/

/-- A lane after a fault (R150). -/
def faulted (r : Lane) : Lane :=
  match r.state with
  | .good => { r with state := .suspect, clean := 0 }
  | .suspect => { r with state := .failed }
  | .failed | .absent => r

/-- A lane after a transmission on it was cut off (R150, R161). -/
def afterCut (r : Lane) : Lane :=
  match r.state with
  | .good | .suspect => { r with state := .failed }
  | .failed | .absent => r

/-- The lanes of s, but for one that has this record. -/
def lanesWith (lane : LaneId) (r : Lane) (s : State) (l : LaneId) : Lane := if l = lane then r else laneRecordOf s.link l

/-- A LANE_STATE entry: the new state, the state left and the cause, as codes (R150). -/
def laneEntry (now : TimeTag) (lane : LaneId) (entered left : LaneState) (cause : Nat) : Entry :=
  ⟨now, .laneState, BitVec.ofNat 16 (laneCode lane), detail4 (laneStateCode entered) (laneStateCode left) cause 0⟩

/-- From s to t a lane went from its state in s to this record's, with LANE_STATE where the state changed (R150). -/
def LaneChangePushed (lane : LaneId) (r : Lane) (cause : Nat) (s t : State) : Prop :=
  r.state ≠ (laneRecordOf s.link lane).state →
    Pushed (laneEntry s.now lane r.state (laneRecordOf s.link lane).state cause) s t

/-- A transaction whose attempt on its lane was not clean (R151). -/
def notClean (txn : Txn) : Txn :=
  match txn.lane with
  | .a => { txn with onA := { txn.onA with dirty := true } }
  | .b => { txn with onB := { txn.onB with dirty := true } }

/-- A transaction whose attempt on its lane ended silent (R150, R151). -/
def wentSilent (txn : Txn) : Txn :=
  match txn.lane with
  | .a => { txn with onA := { txn.onA with dirty := true, silent := true } }
  | .b => { txn with onB := { txn.onB with dirty := true, silent := true } }

/-- A transaction whose silent attempts a well-formed report has settled (R150). -/
def silenceSettled (txn : Txn) : Txn :=
  { txn with onA := { txn.onA with silent := false }, onB := { txn.onB with silent := false } }

/-- The lanes after a well-formed report: the lane on which an earlier attempt ended silent is faulted, unless the report came
on it (R150). -/
def afterSilence (txn : Txn) (s : State) (l : LaneId) : Lane :=
  if l ≠ txn.lane ∧ (txnLane txn l).silent = true then faulted (laneRecordOf s.link l) else laneRecordOf s.link l

/-- At the end of a transaction with this memory of a lane, whose record was r, the clean run count has been judged (R151). -/
def CleanRunJudged (lane : LaneId) (m : TxnLane) (r : Lane) (s t : State) : Prop :=
  ((m.used = true ∧ m.suspect = true ∧ r.state = .suspect) →
    (m.dirty = true → (laneRecordOf t.link lane).state = .suspect ∧ (laneRecordOf t.link lane).clean = 0) ∧
    (m.dirty = false → r.clean < 15 →
      (laneRecordOf t.link lane).state = .suspect ∧ (laneRecordOf t.link lane).clean = r.clean + 1) ∧
    (m.dirty = false → 15 ≤ r.clean →
      (laneRecordOf t.link lane).state = .good ∧ (laneRecordOf t.link lane).clean = 0 ∧
      Pushed (laneEntry s.now lane .good .suspect 3) s t)) ∧
  (¬ (m.used = true ∧ m.suspect = true ∧ r.state = .suspect) →
    (laneRecordOf t.link lane).state = r.state ∧ (laneRecordOf t.link lane).clean = r.clean)

/-- The transaction of a unit with its first attempt on a lane, built while the part stands as t, with this sequence number
(R151, R157, R159). -/
def firstAttempt (quiet : Bool) (u : UnitId) (lane : LaneId) (sequence : Byte) (t : State) : Txn :=
  ⟨u, laneRecord (unitCode u) 1 sequence (if quiet then quietBody u else orderBody t u), 1, lane, .sending,
    ⟨false, decide (lane = .a), false, decide (t.link.laneA.state = .suspect)⟩,
    ⟨false, decide (lane = .b), false, decide (t.link.laneB.state = .suspect)⟩⟩

/-- From s to t a frame has gone on to these units (R155, R159, R166): the first enabled one has its transaction, on the
preferred lane where usable, else on the other one; with no lane usable every enabled one has missed its part; with no
transaction to make the frame has ended, and a quiet one has been reported to Run Control (R23). -/
def FrameGoesOn (quiet : Bool) (units : List UnitId) (s t : State) : Prop :=
  (∀ before u rest lane, units = before ++ u :: rest →
    (∀ v ∈ before, (unitRecord s.link v).settings.enabled = false) → (unitRecord s.link u).settings.enabled = true →
    lane = (if usable t.link s.items.preferredLane then s.items.preferredLane else otherLane s.items.preferredLane) →
    usable t.link lane = true →
    (unitRecord t.link u).sequence = (unitRecord s.link u).sequence + 1 ∧
    t.link.frame = .inFrame ⟨quiet, .transaction (firstAttempt quiet u lane (unitRecord t.link u).sequence t), rest⟩) ∧
  (∀ v ∈ units, (unitRecord t.link v).missed =
    if (unitRecord s.link v).settings.enabled && !usable t.link .a && !usable t.link .b then
      raise (unitRecord s.link v).missed
    else (unitRecord s.link v).missed) ∧
  (((∀ v ∈ units, (unitRecord s.link v).settings.enabled = false) ∨
      (usable t.link .a = false ∧ usable t.link .b = false)) →
    (quiet = false → t.link.frame = .waiting) ∧
    (quiet = true → engineAtRest t = true → t.run.state = .standby ∧ t.link.frame = .noFrames) ∧
    (quiet = true → engineAtRest t = false → t.run.state = .winddown ∧ t.link.frame = .waiting))

/-- From s to t a transaction has ended, whose lanes had these records: the clean runs are judged and the frame goes on. -/
def TxnEnded (quiet : Bool) (txn : Txn) (left : List UnitId) (lanes : LaneId → Lane) (s t : State) : Prop :=
  (∀ lane, CleanRunJudged lane (txnLane txn lane) (lanes lane) s t) ∧ FrameGoesOn quiet left s t

/-- From s to t a unit's part of the frame has ended missed (R166; reached means at or above, log 16). -/
def PartMissed (u : UnitId) (s t : State) : Prop :=
  (unitRecord t.link u).missed = raise (unitRecord s.link u).missed ∧
  (unitRecord t.link u).health =
    if s.items.lossLimit ≤ raise (unitRecord s.link u).missed ∧
        ((unitRecord s.link u).health = .joining ∨ (unitRecord s.link u).health = .present)
    then .lost else (unitRecord s.link u).health

/-- The lane that the attempt after this one names: RETRY1 after attempt 1, RETRY2 unless OFF after attempt 2 (R159). -/
def NamesNext (txn : Txn) (named : LaneId) (s : State) : Prop :=
  (txn.attempt = 1 ∧ named =
    if (unitRecord s.link txn.unit).settings.retry1 = .same then txn.lane else otherLane txn.lane) ∨
  (txn.attempt = 2 ∧ (unitRecord s.link txn.unit).settings.retry2 ≠ .off ∧ named =
    if (unitRecord s.link txn.unit).settings.retry2 = .same then txn.lane else otherLane txn.lane)

/-- The next attempt of a transaction on a lane: the same order, with the lane among those used (R157, R159). -/
def attemptOn (txn : Txn) (lane : LaneId) : Txn :=
  { txn with
    attempt := txn.attempt + 1, lane := lane, phase := .sending
    onA := { txn.onA with used := txn.onA.used || decide (lane = .a) }
    onB := { txn.onB with used := txn.onB.used || decide (lane = .b) } }

/-- From s to t an attempt has failed, and the transaction and its lanes now are these (R159): the next attempt is on its
lane, the named one where usable, else the other one; where none remains, or no lane is usable, the unit's part ends missed
and the transaction ends. -/
def AttemptFollowed (quiet : Bool) (txn : Txn) (left : List UnitId) (lanes : LaneId → Lane) (s t : State) : Prop :=
  (∀ named lane, NamesNext txn named s →
    lane = (if usable t.link named then named else otherLane named) → usable t.link lane = true →
    t.link.frame = .inFrame ⟨quiet, .transaction (attemptOn txn lane), left⟩ ∧
    ∀ l, (laneRecordOf t.link l).state = (lanes l).state ∧ (laneRecordOf t.link l).clean = (lanes l).clean) ∧
  (((∀ named, ¬ NamesNext txn named s) ∨ (usable t.link .a = false ∧ usable t.link .b = false)) →
    PartMissed txn.unit s t ∧ TxnEnded quiet txn left lanes s t)

/-! ## Laws of the state -/

/-- R183, R186: at most 128 unread entries, and ALERT asserted exactly while one of a kind in the alert mask is unread. -/
def StackLaw (s : State) : Prop :=
  s.stack.entries.length ≤ 128 ∧
    (s.resetHeld = false → s.outputs.alert = s.stack.entries.any fun e => inMask s.stack.alertMask e.kind)

/-- R187: LIMP_OUT asserted exactly while the run state is LIMP. -/
def LimpOutLaw (s : State) : Prop :=
  s.resetHeld = false → (s.outputs.limpOut = true ↔ s.run.state = .limp)

/-- R173: at most 4 requests and 4 replies wait, and no request is in execution between two steps. -/
def PortLaw (s : State) : Prop :=
  s.port.received.length ≤ 4 ∧ s.port.replies.length ≤ 4 ∧ s.port.executing = none

/-- R18, R19: each limp cause is in the set exactly while its condition holds, and ACTIVE has none. -/
def CauseLaw (s : State) : Prop :=
  (s.run.causes.miuLost = true ↔ s.link.miu.health = .lost) ∧
  (s.run.causes.buLost = true ↔ s.link.bu.health = .lost) ∧
  (s.run.causes.linkDown = true ↔
    (s.link.laneA.state = .failed ∨ s.link.laneA.state = .absent) ∧
    (s.link.laneB.state = .failed ∨ s.link.laneB.state = .absent)) ∧
  (s.run.causes.service = s.lines.svc.level) ∧
  (s.run.causes.demandLost = s.demand.lost) ∧
  (s.run.state = .active → s.run.causes = LimpCauses.empty)

/-- R103: every row permits EV, and that of ZERO_EMISSION permits no engine mode. -/
def TableLaw (t : ZoneTable) : Prop :=
  t.openZone.ev = true ∧ t.lowEmission.ev = true ∧ t.zeroEmission.ev = true ∧ t.quiet.ev = true ∧
    t.zeroEmission.assist = false ∧ t.zeroEmission.charge = false ∧ t.zeroEmission.engineOnly = false ∧
    t.zeroEmission.parkedCharge = false

/-- The zone permission table held obeys R103. -/
def ZoneTableLaw (s : State) : Prop := TableLaw s.solver.table

/-- R108: a record of a ZERO_EMISSION zone has engine torque 0.0 N·m and engine_wanted NO. The table in the snapshot of a
solve in flight, and the table held, obey R103. -/
def ZeroEmissionLaw (s : State) : Prop :=
  (s.solver.record.zone = .zeroEmission →
    s.solver.record.engineTorque = 0 ∧ s.solver.record.engineWanted = false) ∧
  TableLaw s.solver.table ∧ ∀ n ∈ s.solver.solve, TableLaw n.table

/-- R74, R75: ids rise from head to tail, and every record is in its range of id and length. -/
def ListLaw (l : List Segment) : Prop :=
  (l.map (·.id)).Pairwise (· < ·) ∧ ∀ g ∈ l, 1 ≤ g.id ∧ g.id ≤ 65535 ∧ 10 ≤ g.length ∧ g.length ≤ 20000

/-- R72, R75, R79, R80: the lists and their capacities; the position inside the head; a swap pending only in PAGED, over a
standby page that is not empty. -/
def HorizonLaw (s : State) : Prop :=
  ListLaw s.horizon.pageA ∧ ListLaw s.horizon.pageB ∧ ListLaw s.horizon.single ∧
  s.horizon.pageA.length ≤ 64 ∧ s.horizon.pageB.length ≤ 64 ∧ s.horizon.single.length ≤ 128 ∧
  (∀ g ∈ (activeList s.horizon).head?, s.horizon.distance < g.length) ∧
  (activeList s.horizon = [] → s.horizon.distance = 0 ∧ s.horizon.carry = 0) ∧
  s.horizon.carry ≤ 9 ∧
  (s.horizon.swapPending = true →
    s.horizon.paged = true ∧ activeList s.horizon ≠ [] ∧ standbyList s.horizon ≠ [])

/-- The four states that own a state timer (R126). -/
def ownsTimer (e : EngineState) : Bool :=
  decide (e = .cranking ∨ e = .resting ∨ e = .warming ∨ e = .stopping)

/-- R126, R133: a state timer runs exactly in those states; at most 3 attempts, at most 2 before a rest; a BARRED engine has
a bar reason. -/
def EngineLaw (s : State) : Prop :=
  s.engine.timer.isSome = ownsTimer s.engine.state ∧ s.engine.attempt ≤ 3 ∧
    (s.engine.state = .resting → s.engine.attempt ≤ 2) ∧ (s.engine.state = .barred → s.engine.bar.isSome = true)

/-- The units that a frame has still to come to (R155): while it probes, all four; in a transaction, some of those after
the transaction's unit. -/
def unitsInOrder (f : FrameRun) : Prop :=
  match f.work with
  | .probing _ _ _ => f.unitsLeft = [.miu, .eu, .bu, .acu]
  | .transaction t => List.Sublist (t.unit :: f.unitsLeft) [.miu, .eu, .bu, .acu]

/-- R154, R155: NO_FRAMES exactly in STANDBY, where the frame timer is stopped; a quiet frame only in WINDDOWN; the units
in their order. -/
def FrameLaw (s : State) : Prop :=
  (s.link.frame = .noFrames ↔ s.run.state = .standby) ∧
  (s.link.timer = none ↔ s.run.state = .standby) ∧
  ∀ f, s.link.frame = .inFrame f → (f.quiet = true → s.run.state = .winddown) ∧ unitsInOrder f

/-- The lanes that a frame is still to probe, the one it probes first (R155). -/
def probedLanes (l : Link) : List LaneId :=
  match l.frame with
  | .inFrame ⟨_, .probing lane _ left, _⟩ => lane :: left
  | .inFrame ⟨_, .transaction _, _⟩ | .waiting | .noFrames => []

/-- R149, R170: a restore is pending, and a PROBE is to go, only on a FAILED lane, once on each. -/
def LaneLaw (s : State) : Prop :=
  (∀ lane, (laneRecordOf s.link lane).restorePending = true → (laneRecordOf s.link lane).state = .failed) ∧
  (probedLanes s.link).Nodup ∧ ∀ lane ∈ probedLanes s.link, (laneRecordOf s.link lane).state = .failed

/-- R22, R131, R138: while an engine starts, rests between attempts or runs, the run state is ACTIVE or LIMP, the active
zone is an engine zone, and SVC is not asserted. -/
def EngineZoneLaw (s : State) : Prop :=
  (s.engine.state = .cranking ∨ s.engine.state = .resting ∨ s.engine.state = .warming ∨ s.engine.state = .running ∨
      s.engine.state = .holding) →
    (s.run.state = .active ∨ s.run.state = .limp) ∧
      engineZone s.solver.table s.horizon.context.zone = true ∧ s.lines.svc.level = false

end Sys2Proof.Safety
end

