-- ==== Sys2Proof/Certificates/Slice0/Obligations.lean ====
section
/-! DEFINITION. The statements about the part, for the provers. The vocabulary is that of Sys2Proof/Safety.lean.

A request's payload is written as its bytes. `Ready` says that the request is the next to execute; `replied` is the state
after a request that changes nothing but the port's queues; result codes are 0 DONE, 1 ACCEPTED, 2 STATE, 3 RANGE,
4 ORDER, 5 FULL, 6 ABSENT, 7 DUPLICATE, 8 LATE, 9 SPENT, 10 BUSY, 11 FRAME, 12 UNKNOWN (00_scope.md). Wherever a reply
joins the queue, a notice that had met a free line counts as begun (the model's choice, log 5). -/

open Sys2Proof Sys2Proof.Machine Sys2Proof.Safety

/-! ## Steps -/

/-- A step runs the command at the front of the queue on the state with the queue's rest. -/
def Obligations.StepRunsTheFrontCommand : Prop :=
  ∀ (c : Instr) (rest : List Instr) (s : State), s.pending = c :: rest → step s = exec c { s with pending := rest }

/-- With no command waiting, a step counts one millisecond (the model's choice, log 2).

While RESET_N is held low every command but FULL_RESET and RESET_N_ASSERTED changes nothing (the model's choice,
log 4), and RESET_N_ASSERTED deasserts both outputs and gives both polarity items their default (R187). -/
def Obligations.IdleStepsAndResetHeldLow : Prop :=
  (∀ s : State, s.pending = [] → step s = .next { s with now := s.now + 1#32 }) ∧
  ((∀ (c : Instr) (s : State), s.resetHeld = true → (∀ straps levels, c ≠ .fullReset straps levels) →
     c ≠ .resetNAsserted → exec c s = .next s) ∧
   ∀ s : State, exec .resetNAsserted s = .next { s with
     resetHeld := true
     outputs := ⟨false, false⟩
     items := { s.items with alertPolarity := .activeLow, limpOutPolarity := .activeLow } })

/-! ## FULL_RESET -/

/-- Run Control, the inputs, straps, items, port, stack and outputs after FULL_RESET (R17, R26, R29, R173, R183, R186,
R187, and the defaults of the items).

The channels, the Arbiter, the horizon and its tables after FULL_RESET (R33, R34, R50, R51, R56, R57, R71, R72, R80,
R88, R89, R97).

The Solver with the whole empty record, the Sequencer and the link with the units' default settings, flags and
patterns after FULL_RESET (R13, R100, R103, R105, R121 to R123, R126, R146, R148, R149, R154, R156).

That FULL_RESET acts in every state and keeps the commands that wait is the model's choice (log 24). -/
def Obligations.FullResetLeavesTheseValues : Prop :=
  (∀ (straps : Straps) (levels : Levels) (s : State), ∃ t, exec (.fullReset straps levels) s = .next t ∧
     t.pending = s.pending ∧ t.now = 0#32 ∧ t.resetHeld = false ∧
     t.run = ⟨.standby, ⟨false, false, false, levels.svc, false⟩, 0#32⟩ ∧
     t.lines.straps = straps ∧
     t.lines.ign.level = levels.ign ∧ t.lines.ign.settling = levels.ign ∧ t.lines.ign.changedAt = 0#32 ∧
     t.lines.svc.level = levels.svc ∧ t.lines.svc.settling = levels.svc ∧ t.lines.svc.changedAt = 0#32 ∧
     t.lines.plug.level = levels.plug ∧ t.lines.plug.settling = levels.plug ∧ t.lines.plug.changedAt = 0#32 ∧
     t.lines.aux.level = levels.aux ∧ t.lines.aux.settling = levels.aux ∧ t.lines.aux.changedAt = 0#32 ∧
     t.items = ⟨.saturate, false, .rising, .rising, .rising, .rising, true, true, true, true, 50, 500, .lowEmission,
       18000, 200, 50, 15000, 240, 1300, 300, .primary, .other, .off, 900, 80, 500, 350, 90, 60, 20, 10, .a, 300, 3,
       .activeLow, .activeLow, 120, 80⟩ ∧
     t.port = ⟨.hunt, [], [], none, [], none, none, 0x01FFFFFF#32⟩ ∧
     t.stack = ⟨[], false, 0x01FFFFFF#32⟩ ∧ t.outputs = ⟨false, false⟩) ∧
  (∀ (straps : Straps) (levels : Levels) (s : State), ∃ t, exec (.fullReset straps levels) s = .next t ∧
     t.demand.traction = ⟨none, 0#32, false, none⟩ ∧ t.demand.brake = ⟨some 0, 0#32, false, none⟩ ∧
     t.demand.lost = false ∧
     t.aux.length = 10 ∧ (∀ c ∈ t.aux, c = ⟨false, .essential, ⟨true, false⟩, 0, 0, .none⟩) ∧
     t.arbiter.queue = [] ∧ t.arbiter.batteryBudget = 0 ∧ t.arbiter.generationBudget = 0 ∧
     t.arbiter.mode = .fixed ∧ t.arbiter.pattern = 0xAA#8 ∧ t.arbiter.pointer = 1 ∧
     t.arbiter.overdrawTripped = false ∧
     t.horizon.paged = true ∧ t.horizon.pageA = [] ∧ t.horizon.pageB = [] ∧ t.horizon.activeA = true ∧
     t.horizon.swapPending = false ∧ t.horizon.distance = 0 ∧ t.horizon.carry = 0 ∧ t.horizon.payloadClass = 0 ∧
     t.horizon.consumption = ⟨60, 120, 180, 240, 320, 420, 540, 25, 40⟩ ∧ t.horizon.reserve = 0 ∧
     t.horizon.runDistance = none ∧ t.horizon.context = ⟨0, .lowEmission, false, 200, false, none, false⟩) ∧
  (∀ (straps : Straps) (levels : Levels) (s : State), ∃ t, exec (.fullReset straps levels) s = .next t ∧
     t.solver.solve = none ∧ t.solver.repeatMark = false ∧ t.solver.latch = false ∧
     t.solver.record = ⟨0#32, 0#32, .standby, .lowEmission, .ev, false, .opened, 0, 0, 0, 0, 0, 0, 0,
       ⟨false, false, false, false⟩, false⟩ ∧
     t.solver.depletion = none ∧
     t.solver.table = ⟨⟨true, true, true, true, true, true⟩, ⟨true, true, true, true, true, false⟩,
       ⟨true, false, false, false, true, false⟩, ⟨true, true, false, false, true, false⟩⟩ ∧
     t.solver.holds = ⟨⟨false, 0#32⟩, ⟨false, 0#32⟩, ⟨false, 0#32⟩, ⟨false, 0#32⟩⟩ ∧
     t.engine.state = .off ∧ t.engine.attempt = 0 ∧ t.engine.path = none ∧ t.engine.bar = none ∧
     t.engine.faultNoted = false ∧ t.engine.minRun = none ∧ t.engine.timer = none ∧ t.engine.wanted = false ∧
     t.link.miu.health = .joining ∧ t.link.eu.health = .joining ∧ t.link.bu.health = .joining ∧
     t.link.acu.health = .disabled ∧
     t.link.miu.settings = ⟨true, 0x10#8, 0x12#8, .other, .same, false, false, none⟩ ∧
     t.link.eu.settings = ⟨true, 0x10#8, 0x12#8, .other, .same, false, false, none⟩ ∧
     t.link.bu.settings = ⟨true, 0x30#8, 0x32#8, .other, .same, false, false, none⟩ ∧
     t.link.acu.settings = ⟨false, 0x10#8, 0x12#8, .other, .same, false, false, none⟩ ∧
     (∀ u : UnitId, (unitRecord t.link u).missed = 0 ∧ (unitRecord t.link u).sequence = 0#8 ∧
       (unitRecord t.link u).flags = 0#8 ∧ (unitRecord t.link u).statusSet = 0#8 ∧
       (unitRecord t.link u).onA = ⟨0, 0, 0, 0, 0, 0, 0⟩ ∧ (unitRecord t.link u).onB = ⟨0, 0, 0, 0, 0, 0, 0⟩) ∧
     t.link.miuMeas = ⟨none, none, none, none, none, none⟩ ∧ t.link.euMeas = ⟨none, none, none, none, none⟩ ∧
     t.link.buMeas = ⟨none, none, none, none, none, none⟩ ∧ t.link.acuDraw = none ∧
     t.link.laneA = ⟨.good, 0, false⟩ ∧ t.link.laneB = ⟨if straps.lanesSingle then .absent else .good, 0, false⟩ ∧
     t.link.frame = .noFrames ∧ t.link.timer = none ∧ t.link.overruns = 0)

/-- Every full-reset state obeys every law of the state. -/
def Obligations.FullResetMeetsEveryLaw : Prop :=
  ∀ (straps : Straps) (levels : Levels) (pending : List Instr),
    StackLaw (State.fullReset straps levels pending) ∧ LimpOutLaw (State.fullReset straps levels pending) ∧
    PortLaw (State.fullReset straps levels pending) ∧ CauseLaw (State.fullReset straps levels pending) ∧
    GrantLaw (State.fullReset straps levels pending) ∧ ZoneTableLaw (State.fullReset straps levels pending) ∧
    ZeroEmissionLaw (State.fullReset straps levels pending) ∧ HorizonLaw (State.fullReset straps levels pending) ∧
    EngineLaw (State.fullReset straps levels pending) ∧ FrameLaw (State.fullReset straps levels pending) ∧
    LaneLaw (State.fullReset straps levels pending) ∧
    EngineZoneLaw (State.fullReset straps levels pending)

/-! ## Execution of requests (R177, R178) -/

/-- A request that the port may not execute now changes nothing: it is not the oldest, another is in execution, or 3
replies wait (R177; that the row then changes nothing is the model's choice, log 1).

A payload of another length than the kind's is answered RANGE, a request of an undefined kind UNKNOWN, and nothing else
changes (R177; the reply kind 0x80 of an undefined kind is R189's, log 20). -/
def Obligations.RequestsThatAreNotNextOrNotWellFormed : Prop :=
  (∀ r ∈ requestRows, ∀ (tag : Byte) (payload : List Byte) (s : State),
     (s.port.received.head? ≠ some ⟨r.kind, tag, payload⟩ ∨ s.port.executing ≠ none ∨ 3 ≤ s.port.replies.length) →
     exec (r.command tag payload) s = .next s) ∧
  ((∀ r ∈ requestRows, ∀ (tag : Byte) (payload : List Byte) (s : State),
     Ready r.kind tag payload s → payload.length ≠ r.length →
     exec (r.command tag payload) s = .next (replied r.kind tag [3#8] s)) ∧
   (∀ (kind tag : Byte) (payload : List Byte) (s : State),
     (kind = 0#8 ∨ 0x26 < kind.toNat) → Ready kind tag payload s →
     exec (.undefinedKind kind tag payload) s = .next (replied 0#8 tag [12#8] s)))

/-! ## Holds -/

/-- HOLDS_TEST: the hold's state and serial as found; a SET hold becomes CLEAR with serial 0; another value is RANGE.

HOLDS_CLEAR: each named hold becomes CLEAR with serial 0, the others stay; the reply names those that were SET; a set
that names anything else is RANGE. -/
def Obligations.HoldsAreTestedAndCleared : Prop :=
  (∀ (tag : Byte) (s : State),
     (∀ name : HoldName, Ready 0x1C#8 tag [byteOf (holdCode name)] s →
       exec (.holdsTest tag [byteOf (holdCode name)]) s = .next (replied 0x1C#8 tag
         (0#8 :: (flag (holdOfName s.solver.holds name).isSet ++ be32 (holdOfName s.solver.holds name).serial))
         { s with solver := { s.solver with holds :=
             if (holdOfName s.solver.holds name).isSet then withHold name ⟨false, 0#32⟩ s.solver.holds
             else s.solver.holds } })) ∧
     ∀ b : Byte, 3 < b.toNat → Ready 0x1C#8 tag [b] s →
       exec (.holdsTest tag [b]) s = .next (replied 0x1C#8 tag [3#8] s)) ∧
  (∀ (tag set : Byte) (s : State), Ready 0x1D#8 tag [set] s →
     (set.toNat < 16 → exec (.holdsClear tag [set]) s = .next (replied 0x1D#8 tag
       [0#8, byteOf (boolCode (set.getLsbD 0 && s.solver.holds.overflow.isSet) +
         2 * boolCode (set.getLsbD 1 && s.solver.holds.underflow.isSet) +
         4 * boolCode (set.getLsbD 2 && s.solver.holds.divideCheck.isSet) +
         8 * boolCode (set.getLsbD 3 && s.solver.holds.invalid.isSet))]
       { s with solver := { s.solver with holds :=
           ⟨if set.getLsbD 0 then ⟨false, 0#32⟩ else s.solver.holds.overflow,
             if set.getLsbD 1 then ⟨false, 0#32⟩ else s.solver.holds.underflow,
             if set.getLsbD 2 then ⟨false, 0#32⟩ else s.solver.holds.divideCheck,
             if set.getLsbD 3 then ⟨false, 0#32⟩ else s.solver.holds.invalid⟩ } })) ∧
     (16 ≤ set.toNat → exec (.holdsClear tag [set]) s = .next (replied 0x1D#8 tag [3#8] s)))

/-! ## Reads of Run Control and the configuration -/

/-- IDENTIFY replies with the codes, the straps and the capacities, in every state.

CONFIG_GET replies with an item's value, its class and whether the run state accepts a CONFIG_SET of it; a code of no
item is RANGE. -/
def Obligations.IdentifyAndConfigGetReply : Prop :=
  (∀ (tag : Byte) (s : State), Ready 0x01#8 tag [] s →
     exec (.identify tag []) s = .next (replied 0x01#8 tag
       ([0#8, 0x0B#8, 0x27#8, 0x02#8, 0x40#8, 2#8] ++ flag s.lines.straps.beltFitted ++
         flag s.lines.straps.lanesSingle ++ flag s.lines.straps.rateTwoMbit ++ [12#8, 16#8, 128#8, 128#8]) s)) ∧
  (∀ (tag code : Byte) (s : State), Ready 0x07#8 tag [code] s →
     (∀ i : Item, itemOf code.toNat = some i → exec (.configGet tag [code]) s = .next (replied 0x07#8 tag
       (0#8 :: (be32 (BitVec.ofNat 32 (itemGet s.items i)) ++ flag (itemStandbyOnly i) ++
         flag (decide (itemStandbyOnly i = false ∨ s.run.state = .standby)))) s)) ∧
     (itemOf code.toNat = none → exec (.configGet tag [code]) s = .next (replied 0x07#8 tag [3#8] s)))

/-- RUN_READ replies with the run state, the causes, the last change, the four levels and the straps, in every state.

LINES_READ replies with the four inputs, in every state. -/
def Obligations.RunReadAndLinesReadReply : Prop :=
  (∀ (tag : Byte) (s : State), Ready 0x05#8 tag [] s →
     exec (.runRead tag []) s = .next (replied 0x05#8 tag
       ([0#8, byteOf (runStateCode s.run.state), byteOf (causesCode s.run.causes)] ++ be32 s.run.lastChange ++
         flag s.lines.ign.level ++ flag s.lines.svc.level ++ flag s.lines.plug.level ++ flag s.lines.aux.level ++
         flag s.lines.straps.beltFitted ++ flag s.lines.straps.lanesSingle ++ flag s.lines.straps.rateTwoMbit) s)) ∧
  (∀ (tag : Byte) (s : State), Ready 0x08#8 tag [] s →
     exec (.linesRead tag []) s = .next (replied 0x08#8 tag
       (0#8 ::
         ((flag s.lines.ign.level ++ flag (decide (s.lines.ign.settling ≠ s.lines.ign.level)) ++
           be32 s.lines.ign.changedAt ++ [byteOf (edgeCode s.items.ignEdge)] ++ flag s.items.ignEvent) ++
         (flag s.lines.svc.level ++ flag (decide (s.lines.svc.settling ≠ s.lines.svc.level)) ++
           be32 s.lines.svc.changedAt ++ [byteOf (edgeCode s.items.svcEdge)] ++ flag s.items.svcEvent) ++
         (flag s.lines.plug.level ++ flag (decide (s.lines.plug.settling ≠ s.lines.plug.level)) ++
           be32 s.lines.plug.changedAt ++ [byteOf (edgeCode s.items.plugEdge)] ++ flag s.items.plugEvent) ++
         (flag s.lines.aux.level ++ flag (decide (s.lines.aux.settling ≠ s.lines.aux.level)) ++
           be32 s.lines.aux.changedAt ++ [byteOf (edgeCode s.items.auxEdge)] ++ flag s.items.auxEvent))) s))

/-- The 38 configuration items with their codes, ranges, values after full reset and classes, a code of no item, and the
items whose change the Solver and the Tracker take (R31, R90, R99, and the tables of the owning chapters).

CONFIG_SET: its three checks in order; an accepted value is held and replied, every other item stays, and only a change
of a Tracker's setting reaches the horizon and the engine; a value already held changes nothing. Where the Tracker's act stops
the engine, the Solver's trigger comes first (log 6). -/
def Obligations.ConfigSetChecksAndSetsOneItem : Prop :=
  (itemRows.map (·.code) = List.range' 1 38 ∧
    (∀ code : Nat, (code = 0 ∨ 0x26 < code) → itemOf code = none) ∧
    (∀ r ∈ itemRows, itemOf r.code = some r.item ∧ itemStandbyOnly r.item = r.standbyOnly ∧
      (∀ v : Int, itemInRange r.item v = true ↔
        r.low ≤ v ∧ v ≤ r.high ∧ (r.item = .framePeriod → (v = 5 ∨ v = 10 ∨ v = 20 ∨ v = 40))) ∧
      ∀ (straps : Straps) (levels : Levels) (pending : List Instr),
        itemGet (State.fullReset straps levels pending).items r.item = r.initial) ∧
    (∀ i : Item, solverItem i = true ↔ i ∈ [Item.fitMode, .trapping, .warmCap, .engineBaseTorque, .chargePower,
      .parkedChargePower, .parkedChargeSpeed, .limpCap]) ∧
    (∀ i : Item, trackerItem i = true ↔
      i ∈ [Item.defaultZone, .batteryCapacity, .socFloor, .chargeMargin, .lookAhead])) ∧
  (∀ (tag code b3 b2 b1 b0 : Byte) (s : State), Ready 0x06#8 tag [code, b3, b2, b1, b0] s →
    (itemOf code.toNat = none →
      exec (.configSet tag [code, b3, b2, b1, b0]) s = .next (replied 0x06#8 tag [3#8] s)) ∧
    ∀ i : Item, itemOf code.toNat = some i →
      ((itemStandbyOnly i = true ∧ s.run.state ≠ .standby) →
        exec (.configSet tag [code, b3, b2, b1, b0]) s = .next (replied 0x06#8 tag [2#8] s)) ∧
      ((itemStandbyOnly i = false ∨ s.run.state = .standby) →
        (itemInRange i (word32 b3 b2 b1 b0).toInt = false →
          exec (.configSet tag [code, b3, b2, b1, b0]) s = .next (replied 0x06#8 tag [3#8] s)) ∧
        (itemInRange i (word32 b3 b2 b1 b0).toInt = true →
          ∃ t, exec (.configSet tag [code, b3, b2, b1, b0]) s = .next t ∧
            Answered 0x06#8 tag [0#8, b3, b2, b1, b0] s t ∧
            itemGet t.items i = (word32 b3 b2 b1 b0).toNat ∧
            (∀ j : Item, j ≠ i → itemGet t.items j = itemGet s.items j) ∧
            (trackerItem i = false → t.horizon = s.horizon ∧ t.engine = s.engine) ∧
            ((word32 b3 b2 b1 b0).toNat = itemGet s.items i →
              t = replied 0x06#8 tag [0#8, b3, b2, b1, b0] s) ∧
            ((word32 b3 b2 b1 b0).toNat ≠ itemGet s.items i → solverItem i = true → Triggered s t) ∧
            ((word32 b3 b2 b1 b0).toNat ≠ itemGet s.items i → trackerItem i = true → Tracked [] s.horizon s t) ∧
            Unchanged { items := true, horizon := true, engine := true } s t)))

/-! ## The run state -/

/-- RUN enters ACTIVE from STANDBY with IGN alone asserted of IGN, SVC and PLUG, and goes on to LIMP with a cause present;
in every other case it is refused with STATE. The trigger of ACTIVE comes before the entry to LIMP (log 6). -/
def Obligations.RunStartsADrive : Prop :=
  ∀ (tag : Byte) (s : State), Ready 0x02#8 tag [] s →
    ((s.run.state = .standby ∧ s.lines.ign.level = true ∧ s.lines.svc.level = false ∧ s.lines.plug.level = false) →
      ∃ t, exec (.run tag []) s = .next t ∧ Answered 0x02#8 tag [0#8] s t ∧
        t.run = ⟨if s.run.causes = LimpCauses.empty then .active else .limp, s.run.causes, s.now⟩ ∧
        t.outputs.limpOut = decide (s.run.causes ≠ LimpCauses.empty) ∧
        t.demand = { s.demand with traction := { s.demand.traction with
          timer := some (s.demand.traction.timer.getD (s.now + BitVec.ofNat 32 s.items.demandTimeout)) } } ∧
        t.link = { s.link with
          frame := .waiting
          timer := some (s.now + BitVec.ofNat 32 s.items.framePeriod)
          periodRead := s.items.framePeriod } ∧
        lasting t.solver = { lasting s.solver with ofThisDrive := false } ∧
        TriggerTaken s t ∧
        Unchanged { run := true, demand := true, aux := true, arbiter := true, solver := true, link := true } s t ∧
        (GrantLaw s → t.aux = s.aux ∧ t.arbiter = s.arbiter ∧
          TriggeredAs { t with run := { t.run with state := .active } } s t ∧
          Logged (runEntry s.now 1#16 s.run.causes ::
            (if s.run.causes = LimpCauses.empty then [] else [runEntry s.now 2#16 s.run.causes])) s t)) ∧
    (¬ (s.run.state = .standby ∧ s.lines.ign.level = true ∧ s.lines.svc.level = false ∧
        s.lines.plug.level = false) →
      exec (.run tag []) s = .next (replied 0x02#8 tag [2#8] s))

/-- HALT takes ACTIVE and LIMP to WINDDOWN, and changes nothing in STANDBY and WINDDOWN; it replies DONE in all. At entry to
WINDDOWN every grant is revoked in the order of R67, every ask removed, the demands unloaded and the engine stopped (R22,
R42, R69, R138); the order of the blocks is log 6, the place of an offer among the offers log 10. -/
def Obligations.HaltEndsTheDrive : Prop :=
  ∀ (tag : Byte) (s : State), Ready 0x03#8 tag [] s →
    ((s.run.state = .active ∨ s.run.state = .limp) →
      ∃ t, exec (.halt tag []) s = .next t ∧ Answered 0x03#8 tag [0#8] s t ∧ WoundDown [] s t) ∧
    ((s.run.state = .standby ∨ s.run.state = .winddown) →
      exec (.halt tag []) s = .next (replied 0x03#8 tag [0#8] s))

/-- LIMP_CLEAR returns LIMP with no cause to ACTIVE, and is refused with STATE otherwise; the reply carries the causes. That
the Arbiter's pass comes before the run-state change's own trigger, whose snapshot has the granted sums it leaves, is the
model's reading (log 6).

Entry to ACTIVE pushes RUN_STATE and runs one arbitration pass over the channels and the queue as they stand (R21, R24, R55). -/
def Obligations.LimpClearReturnsToActive : Prop :=
  ∀ (tag : Byte) (s : State), Ready 0x04#8 tag [] s →
    ((s.run.state = .limp ∧ s.run.causes = LimpCauses.empty) →
      ∃ t, exec (.limpClear tag []) s = .next t ∧ Answered 0x04#8 tag [0#8, 0#8] s t ∧
        t.run = ⟨.active, s.run.causes, s.now⟩ ∧ t.outputs.limpOut = false ∧
        t.demand = { s.demand with traction := { s.demand.traction with
          timer := some (s.demand.traction.timer.getD (s.now + BitVec.ofNat 32 s.items.demandTimeout)) } } ∧
        Triggered s t ∧
        Unchanged { run := true, demand := true, aux := true, arbiter := true } s t ∧ choose t = none ∧
        t.aux = (pass s).aux ∧ t.arbiter = (pass s).arbiter ∧
        t.stack = (pass (push .runState 1 (BitVec.ofNat 32 (causesCode s.run.causes)) s)).stack ∧
        Pushed (runEntry s.now 1#16 s.run.causes) s t ∧
        (s.arbiter.queue = [] →
          t.aux = s.aux ∧ t.arbiter = s.arbiter ∧ Logged [runEntry s.now 1#16 s.run.causes] s t)) ∧
    (¬ (s.run.state = .limp ∧ s.run.causes = LimpCauses.empty) →
      exec (.limpClear tag []) s =
        .next (replied 0x04#8 tag [2#8, byteOf (causesCode s.run.causes)] s))

/-! ## Channels and demands -/

/-- CHANNEL_OPEN: its checks in order; an accepted one gives the channel its class, pools and allowance, with used energy
0 and grant state NONE. -/
def Obligations.ChannelOpenOpensAnAuxiliaryChannel : Prop :=
  ∀ (tag ch cls pools a1 a0 : Byte) (s : State), Ready 0x09#8 tag [ch, cls, pools, a1, a0] s →
    (11 < ch.toNat →
      exec (.channelOpen tag [ch, cls, pools, a1, a0]) s = .next (replied 0x09#8 tag [3#8] s)) ∧
    ((ch.toNat < 2 ∨ (ch.toNat ≤ 11 ∧ (auxAt s ch.toNat).isOpen = true)) →
      exec (.channelOpen tag [ch, cls, pools, a1, a0]) s = .next (replied 0x09#8 tag [2#8] s)) ∧
    ((2 ≤ ch.toNat ∧ ch.toNat ≤ 11 ∧ (auxAt s ch.toNat).isOpen = false) →
      ((1 < cls.toNat ∨ pools.toNat = 0 ∨ 3 < pools.toNat ∨ 20000 < (word16 a1 a0).toNat) →
        exec (.channelOpen tag [ch, cls, pools, a1, a0]) s = .next (replied 0x09#8 tag [3#8] s)) ∧
      ((cls.toNat ≤ 1 ∧ 1 ≤ pools.toNat ∧ pools.toNat ≤ 3 ∧ (word16 a1 a0).toNat ≤ 20000) →
        exec (.channelOpen tag [ch, cls, pools, a1, a0]) s = .next (replied 0x09#8 tag [0#8]
          { s with
              aux := s.aux.set (ch.toNat - 2)
                ⟨true, if cls.toNat = 0 then .essential else .deferrable, ⟨pools.getLsbD 0, pools.getLsbD 1⟩,
                  (word16 a1 a0).toNat, 0, .none⟩ })))

/-- CHANNEL_CLOSE: its checks in order; an accepted one closes the channel with its used energy brought up to date, and no
ask of it stays in the queue, the others keeping their order; the reply carries the grant state found and the used energy;
the close of a granted channel is followed by one pass (R46), and a changed granted sum is a trigger (R52). -/
def Obligations.ChannelCloseEndsTheGrantAndCloses : Prop :=
  ∀ (tag ch : Byte) (s : State), GrantLaw s → Ready 0x0A#8 tag [ch] s →
    (11 < ch.toNat → exec (.channelClose tag [ch]) s = .next (replied 0x0A#8 tag [3#8] s)) ∧
    (ch.toNat < 2 → exec (.channelClose tag [ch]) s = .next (replied 0x0A#8 tag [2#8] s)) ∧
    ((2 ≤ ch.toNat ∧ ch.toNat ≤ 11 ∧ (auxAt s ch.toNat).isOpen = false) →
      exec (.channelClose tag [ch]) s = .next (replied 0x0A#8 tag [6#8] s)) ∧
    ((2 ≤ ch.toNat ∧ ch.toNat ≤ 11 ∧ (auxAt s ch.toNat).isOpen = true) →
      ∃ t, exec (.channelClose tag [ch]) s = .next t ∧
        Answered 0x0A#8 tag ([0#8, byteOf (grantCode (auxAt s ch.toNat).grant)] ++
          be16 (BitVec.ofNat 16 (usedAt s.now (auxAt s ch.toNat)))) s t ∧
        auxAt t ch.toNat = { auxAt s ch.toNat with
          isOpen := false, used := usedAt s.now (auxAt s ch.toNat), grant := .none } ∧
        (∀ ask ∈ t.arbiter.queue, ask.channel ≠ ch.toNat) ∧
        List.Sublist t.arbiter.queue (s.arbiter.queue.filter fun ask => decide (ask.channel ≠ ch.toNat)) ∧
        GrantChangeHandedOn s t ∧
        (isGranted (auxAt s ch.toNat) = true → choose t = none ∧
          ∀ r : State, r = { s with aux := s.aux.set (ch.toNat - 2) { auxAt s ch.toNat with
              isOpen := false, used := usedAt s.now (auxAt s ch.toNat), grant := .none } } →
            t.aux = (pass r).aux ∧ t.arbiter = (pass r).arbiter ∧ t.stack = (pass r).stack) ∧
        (isGranted (auxAt s ch.toNat) = false →
          t.arbiter.queue = (s.arbiter.queue.filter fun ask => decide (ask.channel ≠ ch.toNat)) ∧
          t.arbiter = { s.arbiter with queue := t.arbiter.queue } ∧
          (∀ c, c ≠ ch.toNat → 2 ≤ c → auxAt t c = auxAt s c) ∧ t.stack = s.stack) ∧
        Unchanged { aux := true, arbiter := true } s t)

/-- CHANNEL_READ of the three kinds of index: a demand channel's value, arrival, freshness, lost mark, timer and the
substitution flag; an auxiliary channel's record with the terms of its grant where it is OFFERED or HELD (R48, R49).

HORIZON_READ: its checks in order, then the record asked for and the horizon's state (R98).

ENGINE_READ: the Sequencer's fields, its decision, and the EU's health, flags and measurements, in every state (R143,
R145); the decision reads the record of this drive (log 22), and its path is none but in CRANKING (log 30).

UNIT_READ: a unit's record, both lanes and the frame state, in every state (R172); FRAME_PERIOD reads 0 before the frame
timer was first set (log 18).

The bytes of values without a listed code are free (log 8). The presence bytes, the one-byte counts and periods, and the
places of fields that the layouts leave open are the model's reading (log 9), and so are the substitution flag of channel 1
(log 27) and the cap on the used energy that a read shows (log 19). -/
def Obligations.ChannelsHorizonEngineAndUnitsAreRead : Prop :=
  (∀ (tag ch : Byte) (s : State), Ready 0x0B#8 tag [ch] s →
     (11 < ch.toNat → exec (.channelRead tag [ch]) s = .next (replied 0x0B#8 tag [3#8] s)) ∧
     (ch = 0#8 → exec (.channelRead tag [ch]) s = .next (replied 0x0B#8 tag
       (0#8 :: (signedQty s.demand.traction.value ++ be32 s.demand.traction.arrival ++
         [Config.unlistedCode (if s.demand.traction.fresh then .freshnessFresh else .freshnessStale)] ++
           flag s.demand.lost ++
         [Config.unlistedCode (if s.demand.traction.timer.isSome then .demandTimerRunning
           else .demandTimerStopped)] ++
         (match s.demand.traction.timer with
           | some expiry => 1#8 :: be32 expiry
           | none => [0#8, 0#8, 0#8, 0#8, 0#8]) ++ flag s.lines.plug.level)) s)) ∧
     (ch = 1#8 → exec (.channelRead tag [ch]) s = .next (replied 0x0B#8 tag
       (0#8 :: (signedQty s.demand.brake.value ++ be32 s.demand.brake.arrival ++
         [Config.unlistedCode (if s.demand.brake.fresh then .freshnessFresh else .freshnessStale)] ++ [0#8] ++
         [Config.unlistedCode (if s.demand.brake.timer.isSome then .demandTimerRunning
           else .demandTimerStopped)] ++
         (match s.demand.brake.timer with
           | some expiry => 1#8 :: be32 expiry
           | none => [0#8, 0#8, 0#8, 0#8, 0#8]) ++ flag s.lines.plug.level)) s)) ∧
     (∀ c, 2 ≤ ch.toNat → ch.toNat ≤ 11 → c = auxAt s ch.toNat →
       exec (.channelRead tag [ch]) s = .next (replied 0x0B#8 tag
         (0#8 :: ([Config.unlistedCode (if c.isOpen then .channelOpen else .channelClosed),
             byteOf (classCode c.cls), byteOf (poolsCode c.pools)] ++ be16 (BitVec.ofNat 16 c.allowance) ++
           be16 (BitVec.ofNat 16 (usedAt s.now c)) ++ [byteOf (grantCode c.grant)] ++
           (match c.grant with
             | .offered terms _ => 1#8 :: be16 (BitVec.ofNat 16 terms.power) ++ [1#8, byteOf (poolCode terms.pool)] ++
                 1#8 :: be32 terms.offerTime ++ [0#8, 0#8, 0#8, 0#8, 0#8]
             | .held terms confirmTime _ => 1#8 :: be16 (BitVec.ofNat 16 terms.power) ++
                 [1#8, byteOf (poolCode terms.pool)] ++ 1#8 :: be32 terms.offerTime ++ 1#8 :: be32 confirmTime
             | .none | .queued => List.replicate 15 0#8))) s))) ∧
  (∀ (tag list index : Byte) (s : State) (rest : List Byte),
     rest =
          (flag (!s.horizon.paged) ++ flag (s.horizon.paged && !s.horizon.activeA) ++
            [byteOf s.horizon.pageA.length, byteOf s.horizon.pageB.length, byteOf s.horizon.single.length] ++
            flag s.horizon.swapPending ++
            be16 (BitVec.ofNat 16 (((activeList s.horizon).head?.map (·.id)).getD 0)) ++
            be16 (BitVec.ofNat 16 s.horizon.distance) ++ [byteOf s.horizon.carry] ++
            be16 (BitVec.ofNat 16 s.horizon.context.segmentId) ++ [byteOf (zoneCode s.horizon.context.zone)] ++
            flag s.horizon.context.dwell ++ be16 (BitVec.ofNat 16 s.horizon.context.floor) ++
            [Config.unlistedCode (if s.horizon.context.chargeAhead then .chargeAheadActive
              else .chargeAheadInactive)] ++
            (match s.horizon.context.target with
              | some target => 1#8 :: be16 (BitVec.ofNat 16 target)
              | none => [0#8, 0#8, 0#8]) ++
            flag s.horizon.context.short ++ be16 (BitVec.ofNat 16 s.horizon.reserve) ++
            (match s.horizon.runDistance with
              | some distance => 1#8 :: be32 (BitVec.ofNat 32 distance)
              | none => [0#8, 0#8, 0#8, 0#8, 0#8]) ++
            [byteOf s.horizon.payloadClass] ++
            be16 (BitVec.ofNat 16 s.horizon.consumption.m3) ++ be16 (BitVec.ofNat 16 s.horizon.consumption.m2) ++
            be16 (BitVec.ofNat 16 s.horizon.consumption.m1) ++ be16 (BitVec.ofNat 16 s.horizon.consumption.g0) ++
            be16 (BitVec.ofNat 16 s.horizon.consumption.p1) ++ be16 (BitVec.ofNat 16 s.horizon.consumption.p2) ++
            be16 (BitVec.ofNat 16 s.horizon.consumption.p3) ++ be16 (BitVec.ofNat 16 s.horizon.consumption.stop) ++
            be16 (BitVec.ofNat 16 s.horizon.consumption.lift)) →
     Ready 0x18#8 tag [list, index] s →
     (2 < list.toNat → exec (.horizonRead tag [list, index]) s = .next (replied 0x18#8 tag [3#8] s)) ∧
     ∀ name, listCode name = list.toNat →
       ((decide (name = .single) = s.horizon.paged ∨ (if name = .single then 128 else 64) < index.toNat) →
         exec (.horizonRead tag [list, index]) s = .next (replied 0x18#8 tag [3#8] s)) ∧
       ((decide (name = .single) ≠ s.horizon.paged ∧ index.toNat ≤ (if name = .single then 128 else 64)) →
         ((listNamed s.horizon name).length < index.toNat →
           exec (.horizonRead tag [list, index]) s = .next (replied 0x18#8 tag [6#8] s)) ∧
         (index = 0#8 → exec (.horizonRead tag [list, index]) s = .next (replied 0x18#8 tag
           (0#8 :: 0#8 :: (List.replicate 12 0#8 ++ rest)) s)) ∧
         (∀ before g after, listNamed s.horizon name = before ++ g :: after → index.toNat = before.length + 1 →
           exec (.horizonRead tag [list, index]) s = .next (replied 0x18#8 tag
             (0#8 :: 1#8 :: (segmentBytes g ++ rest)) s)))) ∧
  ((∀ (tag : Byte) (s : State), Ready 0x1F#8 tag [] s →
      exec (.engineRead tag []) s = .next (replied 0x1F#8 tag
        ([0#8, byteOf (engineCode s.engine.state), byteOf s.engine.attempt, byteOf (pathCode s.engine.path),
            byteOf (barCode s.engine.bar)] ++ flag s.engine.faultNoted ++ be32 (s.engine.minRun.getD 0#32) ++
          [Config.unlistedCode (if s.engine.timer = none then .stateTimerNone else match s.engine.state with
              | .cranking => .stateTimerCrankLimit
              | .resting => .stateTimerRest
              | .warming => .stateTimerWarmLimit
              | .stopping => .stateTimerStopLimit
              | .off | .running | .holding | .barred | .detached => .stateTimerNone)] ++
          be32 (s.engine.timer.getD 0#32) ++ flag s.engine.wanted ++
          [byteOf (euRequestCode (engineDecision s).request), byteOf (pathCode (engineDecision s).path),
            byteOf (clutchCode (engineDecision s).clutch)] ++ be16 (BitVec.ofInt 16 (engineDecision s).torque) ++
          flag (engineDecision s).miuCranks ++ [byteOf (healthCode s.link.eu.health), s.link.eu.flags] ++
          unsignedQty s.link.euMeas.engineSpeed ++ signedQty s.link.euMeas.torque ++
          signedQty s.link.euMeas.available ++ signedQty s.link.euMeas.catalyst ++ [match s.link.euMeas.clutch with
              | some clutch => byteOf (clutchCode clutch)
              | none => 0xFF#8] ++
          be32 s.link.eu.measuredAt) s) ∧
      ((s.engine.state = .cranking ∧ s.engine.path = some .primary) →
        engineDecision s = ⟨.crank, some .primary, .slip, 0, true⟩) ∧
      ((s.engine.state = .cranking ∧ s.engine.path = some .alternate) →
        engineDecision s = ⟨.crank, some .alternate, .opened, 0, false⟩) ∧
      (s.engine.state = .warming → s.solver.ofThisDrive = true → engineDecision s =
        ⟨.run, none, .closed, min s.solver.record.engineTorque (2 * Int.ofNat s.items.warmCap), false⟩) ∧
      ((s.engine.state = .running ∨ s.engine.state = .holding) → s.solver.ofThisDrive = true →
        engineDecision s = ⟨.run, none, s.solver.record.clutch, s.solver.record.engineTorque, false⟩) ∧
      ((s.engine.state = .off ∨ s.engine.state = .resting ∨ s.engine.state = .stopping ∨ s.engine.state = .barred ∨
          s.engine.state = .detached) → engineDecision s = ⟨.stop, none, .opened, 0, false⟩)) ∧
   (∀ (tag a : Byte) (s : State), Ready 0x22#8 tag [a] s →
      ((a = 0#8 ∨ 4 < a.toNat) → exec (.unitRead tag [a]) s = .next (replied 0x22#8 tag [3#8] s)) ∧
      ∀ u r, unitCode u = a.toNat → r = unitRecord s.link u →
        exec (.unitRead tag [a]) s = .next (replied 0x22#8 tag
          (0#8 ::
            (flag r.settings.enabled ++ [r.settings.expected, r.settings.mask,
              byteOf (retry1Code r.settings.retry1), byteOf (retry2Code r.settings.retry2)] ++
            flag r.settings.retryIfStatusSet ++ flag r.settings.briefBusy ++
            [match r.settings.copyTo with
              | some destination => byteOf (unitCode destination)
              | none => 0#8] ++
            [byteOf (healthCode r.health)] ++ be16 (BitVec.ofNat 16 r.missed) ++ [r.sequence, r.flags, r.statusSet] ++
            (match u with
              | .miu => unsignedQty s.link.miuMeas.shaftSpeed ++ signedQty s.link.miuMeas.torque ++
                  signedQty s.link.miuMeas.motoring ++ signedQty s.link.miuMeas.generating ++
                  unsignedQty s.link.miuMeas.distance ++ signedQty s.link.miuMeas.temperature
              | .eu => unsignedQty s.link.euMeas.engineSpeed ++ signedQty s.link.euMeas.torque ++
                  signedQty s.link.euMeas.available ++ signedQty s.link.euMeas.catalyst ++
                  [match s.link.euMeas.clutch with
                    | some clutch => byteOf (clutchCode clutch)
                    | none => 0xFF#8]
              | .bu => unsignedQty s.link.buMeas.soc ++ unsignedQty s.link.buMeas.voltage ++
                  signedQty s.link.buMeas.current ++ signedQty s.link.buMeas.discharge ++
                  signedQty s.link.buMeas.chargeLimit ++ signedQty s.link.buMeas.cellTemperature
              | .acu => signedQty s.link.acuDraw) ++
            be32 r.measuredAt ++
            ([r.onA.attempts, r.onA.taken, r.onA.silent, r.onA.refused, r.onA.echoMismatch, r.onA.cutOff,
              r.onA.copies].flatMap fun c => be16 (BitVec.ofNat 16 c)) ++
            ([r.onB.attempts, r.onB.taken, r.onB.silent, r.onB.refused, r.onB.echoMismatch, r.onB.cutOff,
              r.onB.copies].flatMap fun c => be16 (BitVec.ofNat 16 c)) ++
            [byteOf (laneStateCode s.link.laneA.state), byteOf s.link.laneA.clean] ++
            flag s.link.laneA.restorePending ++
            [byteOf (laneStateCode s.link.laneB.state), byteOf s.link.laneB.clean] ++
            flag s.link.laneB.restorePending ++
            [Config.unlistedCode (match s.link.frame with
              | .noFrames => .framesNone
              | .waiting => .framesWaiting
              | .inFrame _ => .framesInFrame), byteOf s.link.periodRead] ++ be16 (BitVec.ofNat 16 s.link.overruns))) s)))

/-- DEMAND: its checks in order; an accepted one refreshes the channel, restarts its timer and is a trigger, and for
channel 0 with the lost mark YES it restores the channel, in one act with one trigger after it (log 6). -/
def Obligations.DemandRefreshesAChannel : Prop :=
  ∀ (tag ch v1 v0 : Byte) (s : State), Ready 0x0C#8 tag [ch, v1, v0] s →
    (1 < ch.toNat → exec (.demand tag [ch, v1, v0]) s = .next (replied 0x0C#8 tag [3#8] s)) ∧
    ((ch.toNat ≤ 1 ∧ (s.run.state = .standby ∨ s.run.state = .winddown)) →
      exec (.demand tag [ch, v1, v0]) s = .next (replied 0x0C#8 tag [2#8] s)) ∧
    ((ch.toNat ≤ 1 ∧ (s.run.state = .active ∨ s.run.state = .limp)) →
      (((word16 v1 v0).toInt < 0 ∨ (if ch = 0#8 then 1200 else 800) < (word16 v1 v0).toInt) →
        exec (.demand tag [ch, v1, v0]) s = .next (replied 0x0C#8 tag [3#8] s)) ∧
      ((ch = 0#8 ∧ 0 ≤ (word16 v1 v0).toInt ∧ (word16 v1 v0).toInt ≤ 1200) →
        ∃ t, exec (.demand tag [ch, v1, v0]) s = .next t ∧ Answered 0x0C#8 tag [0#8] s t ∧
          t.demand.traction = ⟨some (word16 v1 v0).toInt, s.now, true,
            some (s.now + BitVec.ofNat 32 s.items.demandTimeout)⟩ ∧
          t.demand.brake = s.demand.brake ∧ t.demand.lost = false ∧
          t.run = (if s.demand.lost then { s.run with causes := { s.run.causes with demandLost := false } }
            else s.run) ∧
          t.outputs.limpOut = s.outputs.limpOut ∧ Triggered s t ∧
          Logged (if s.demand.lost then [⟨s.now, .demandRestored, 0#16, s.now - s.demand.lostAt⟩] else []) s t ∧
          Unchanged { run := true, demand := true } s t) ∧
      ((ch = 1#8 ∧ 0 ≤ (word16 v1 v0).toInt ∧ (word16 v1 v0).toInt ≤ 800) →
        ∃ t, exec (.demand tag [ch, v1, v0]) s = .next t ∧ Answered 0x0C#8 tag [0#8] s t ∧
          t.demand = { s.demand with brake := ⟨some (word16 v1 v0).toInt, s.now, true,
            some (s.now + BitVec.ofNat 32 s.items.demandTimeout)⟩ } ∧
          t.stack = s.stack ∧ Triggered s t ∧ Unchanged { demand := true } s t))

/-- The timers of the demand channels: before the expiry nothing happens; at it channel 0 is lost, with its entry and its
cause, and channel 1 falls to 0.0 N·m (R38, R40).

The confirm timer's expiry ends an OFFERED grant with GRANT_EXPIRED, the exhaustion expiry a HELD one with GRANT_EXHAUSTED
and its used energy at the allowance; one pass follows each, over the channels and the queue with that grant ended, and a
changed granted sum is a trigger (R52, R61, R65).

That a row without its cause changes nothing, and that a row may be taken at or after its expiry, are the model's choices
(logs 1 and 2). That the Arbiter's act at the entry to LIMP comes before the run-state change's own trigger, whose snapshot
has the granted sums it leaves, is the model's reading (log 6). -/
def Obligations.DemandAndGrantTimersExpire : Prop :=
  (∀ s : State, s.resetHeld = false →
     (expired s.now s.demand.traction.timer = false → exec .tractionDemandTimeout s = .next s) ∧
     (expired s.now s.demand.traction.timer = true →
       ∃ t, exec .tractionDemandTimeout s = .next t ∧ PortKept s t ∧
         t.demand = { s.demand with
           traction := ⟨none, s.demand.traction.arrival, false, none⟩, lost := true, lostAt := s.now } ∧
         t.run = (if s.run.state = .active
           then ⟨.limp, { s.run.causes with demandLost := true }, s.now⟩
           else { s.run with causes := { s.run.causes with demandLost := true } }) ∧
         ((s.demand.traction.value ≠ none ∨ s.run.state = .active) → Triggered s t) ∧
         Unchanged { run := true, demand := true, aux := true, arbiter := true } s t ∧
         (s.run.state ≠ .active → t.aux = s.aux ∧ t.arbiter = s.arbiter ∧
           t.outputs.limpOut = s.outputs.limpOut ∧
           Logged [⟨s.now, .demandLost, 0#16, s.demand.traction.arrival⟩] s t) ∧
         (s.run.state = .active → t.outputs.limpOut = true ∧
           t.aux = (arbiterLimp s).aux ∧ t.arbiter = (arbiterLimp s).arbiter ∧
           Pushed ⟨s.now, .demandLost, 0#16, s.demand.traction.arrival⟩ s t ∧
           Pushed (runEntry s.now 2#16 { s.run.causes with demandLost := true }) s t ∧
           (s.arbiter.queue = [] → (∀ c ∈ s.aux, isGranted c = false) →
             Logged [⟨s.now, .demandLost, 0#16, s.demand.traction.arrival⟩,
               runEntry s.now 2#16 { s.run.causes with demandLost := true }] s t))) ∧
     (expired s.now s.demand.brake.timer = false → exec .brakeDemandTimeout s = .next s) ∧
     (expired s.now s.demand.brake.timer = true →
       ∃ t, exec .brakeDemandTimeout s = .next t ∧ t.port = s.port ∧ t.stack = s.stack ∧
         t.demand = { s.demand with brake := ⟨some 0, s.demand.brake.arrival, false, none⟩ } ∧
         (s.demand.brake.value ≠ some 0 → Triggered s t) ∧ (s.demand.brake.value = some 0 → Untriggered s t) ∧
         Unchanged { demand := true } s t)) ∧
  (∀ (ch : Nat) (s : State), GrantLaw s → s.resetHeld = false →
     (((ch < 2 ∨ 11 < ch) ∨ ∀ terms confirmBy, (auxAt s ch).grant = .offered terms confirmBy →
         below s.now confirmBy = true) → exec (.confirmTimerExpiry ch) s = .next s) ∧
     (∀ terms confirmBy, 2 ≤ ch → ch ≤ 11 → (auxAt s ch).grant = .offered terms confirmBy →
       below s.now confirmBy = false →
       ∃ t, exec (.confirmTimerExpiry ch) s = .next t ∧ PortKept s t ∧
         auxAt t ch = { auxAt s ch with grant := .none } ∧ choose t = none ∧
         (∀ r : State, r = push .grantExpired ch
             (word32 (byteOf (terms.power / 256)) (byteOf terms.power) (byteOf (poolCode terms.pool)) 0#8)
             { s with aux := s.aux.set (ch - 2) { auxAt s ch with grant := .none } } →
           t.aux = (pass r).aux ∧ t.arbiter = (pass r).arbiter ∧ t.stack = (pass r).stack) ∧
         Pushed ⟨s.now, .grantExpired, BitVec.ofNat 16 ch,
           word32 (byteOf (terms.power / 256)) (byteOf terms.power) (byteOf (poolCode terms.pool)) 0#8⟩ s t ∧
         GrantChangeHandedOn s t ∧ (s.arbiter.queue = [] → Logged [⟨s.now, .grantExpired, BitVec.ofNat 16 ch,
           word32 (byteOf (terms.power / 256)) (byteOf terms.power) (byteOf (poolCode terms.pool)) 0#8⟩] s t) ∧
         Unchanged { aux := true, arbiter := true } s t) ∧
     (((ch < 2 ∨ 11 < ch) ∨ ∀ terms confirmTime exhaustAt,
         (auxAt s ch).grant = .held terms confirmTime exhaustAt → expired s.now exhaustAt = false) →
       exec (.exhaustionExpiry ch) s = .next s) ∧
     (∀ terms confirmTime exhaustAt, 2 ≤ ch → ch ≤ 11 →
       (auxAt s ch).grant = .held terms confirmTime exhaustAt → expired s.now exhaustAt = true →
       ∃ t, exec (.exhaustionExpiry ch) s = .next t ∧ PortKept s t ∧
         auxAt t ch = { auxAt s ch with grant := .none, used := (auxAt s ch).allowance } ∧ choose t = none ∧
         (∀ r : State, r = push .grantExhausted ch (BitVec.ofNat 32 (auxAt s ch).allowance)
             { s with
               aux := s.aux.set (ch - 2) { auxAt s ch with grant := .none, used := (auxAt s ch).allowance } } →
           t.aux = (pass r).aux ∧ t.arbiter = (pass r).arbiter ∧ t.stack = (pass r).stack) ∧
         Pushed ⟨s.now, .grantExhausted, BitVec.ofNat 16 ch, BitVec.ofNat 32 (auxAt s ch).allowance⟩ s t ∧
         GrantChangeHandedOn s t ∧ (s.arbiter.queue = [] → Logged [⟨s.now, .grantExhausted, BitVec.ofNat 16 ch,
           BitVec.ofNat 32 (auxAt s ch).allowance⟩] s t) ∧
         Unchanged { aux := true, arbiter := true } s t))

/-! ## Grants -/

/-- GRANT_ASK: refused by the first check that fails; an accepted ask joins the tail of the queue and its pass runs: the
channel is then OFFERED the power asked (DONE), from GENERATION where it fits there, or QUEUED at the tail (ACCEPTED) behind
asks of the old queue in their order; over an empty queue the ask is granted exactly where it fits a pool; a changed granted
sum is a trigger (R52 to R55). The one-byte position and count of the reply are the model's (log 9). -/
def Obligations.GrantAskQueuesAndArbitrates : Prop :=
  ∀ (tag ch p1 p0 : Byte) (s : State), GrantLaw s → Ready 0x0D#8 tag [ch, p1, p0] s →
    (∀ code, askCheck ch.toNat (word16 p1 p0).toNat s = some code →
      exec (.grantAsk tag [ch, p1, p0]) s = .next (replied 0x0D#8 tag [code] s)) ∧
    (askCheck ch.toNat (word16 p1 p0).toNat s = none →
      ∃ t, exec (.grantAsk tag [ch, p1, p0]) s = .next t ∧ choose t = none ∧ GrantChangeHandedOn s t ∧
        (∀ r : State, r = { s with
            aux := s.aux.set (ch.toNat - 2) { auxAt s ch.toNat with grant := .queued }
            arbiter := { s.arbiter with queue := s.arbiter.queue ++
              [⟨ch.toNat, (auxAt s ch.toNat).cls, (word16 p1 p0).toNat, s.now⟩] } } →
          t.aux = (pass r).aux ∧ t.arbiter = (pass r).arbiter ∧ t.stack = (pass r).stack) ∧
        ((∃ pool order, permits (auxAt s ch.toNat).pools pool = true ∧
            (pool = .battery → (auxAt s ch.toNat).pools.generation = true →
              s.arbiter.generationBudget < grantedSum t.aux .generation + (word16 p1 p0).toNat) ∧
            auxAt t ch.toNat = { auxAt s ch.toNat with
              grant := .offered ⟨(word16 p1 p0).toNat, pool, s.now, order⟩
                (s.now + BitVec.ofNat 32 s.items.confirmTimeout) } ∧
            (∀ ask ∈ t.arbiter.queue, ask.channel ≠ ch.toNat) ∧
            Answered 0x0D#8 tag [0#8, p1, p0, byteOf (poolCode pool)] s t) ∨
          (∃ before, List.Sublist before s.arbiter.queue ∧
            auxAt t ch.toNat = { auxAt s ch.toNat with grant := .queued } ∧
            t.arbiter.queue = before ++ [⟨ch.toNat, (auxAt s ch.toNat).cls, (word16 p1 p0).toNat, s.now⟩] ∧
            Answered 0x0D#8 tag [1#8, byteOf (before.length + 1),
              byteOf (before.filter fun ask => decide (ask.cls = (auxAt s ch.toNat).cls)).length] s t)) ∧
        (∀ ask, ask = ⟨ch.toNat, (auxAt s ch.toNat).cls, (word16 p1 p0).toNat, s.now⟩ → s.arbiter.queue = [] →
          (∀ pool, TakesPool ask pool s → t.arbiter.queue = [] ∧
            grantedSum t.aux pool = grantedSum s.aux pool + ask.power ∧
            Answered 0x0D#8 tag [0#8, p1, p0, byteOf (poolCode pool)] s t ∧
            Logged [⟨s.now, .grantOffered, BitVec.ofNat 16 ch.toNat,
              word32 (byteOf (ask.power / 256)) (byteOf ask.power) (byteOf (poolCode pool)) 0#8⟩] s t) ∧
          ((∀ pool, ¬ FitsPool ask pool s) → t.arbiter.queue = [ask] ∧ t.stack = s.stack)) ∧
        Unchanged { aux := true, arbiter := true } s t)

/-- GRANT_CONFIRM, by the channel found: OFFERED becomes HELD from this moment, with its exhaustion expiry, and the HELD
sum rises by the granted power; NONE is LATE; QUEUED and HELD are STATE. -/
def Obligations.GrantConfirmHoldsAnOffer : Prop :=
  ∀ (tag ch : Byte) (s : State), Ready 0x0E#8 tag [ch] s →
    ((ch.toNat < 2 ∨ 11 < ch.toNat) →
      exec (.grantConfirm tag [ch]) s = .next (replied 0x0E#8 tag [3#8] s)) ∧
    ((2 ≤ ch.toNat ∧ ch.toNat ≤ 11) →
      ((auxAt s ch.toNat).isOpen = false →
        exec (.grantConfirm tag [ch]) s = .next (replied 0x0E#8 tag [6#8] s)) ∧
      ((auxAt s ch.toNat).isOpen = true →
        (∀ terms confirmBy, (auxAt s ch.toNat).grant = .offered terms confirmBy →
          exec (.grantConfirm tag [ch]) s = .next (replied 0x0E#8 tag
            (0#8 :: (be16 (BitVec.ofNat 16 terms.power) ++ [byteOf (poolCode terms.pool)] ++
              be32 ((exhaustionAt s.now (auxAt s ch.toNat).allowance (auxAt s ch.toNat).used terms.power).getD 0#32)))
            { s with
                aux := s.aux.set (ch.toNat - 2) { auxAt s ch.toNat with
                grant := .held terms s.now
                  (exhaustionAt s.now (auxAt s ch.toNat).allowance (auxAt s ch.toNat).used terms.power) } }) ∧
          heldSum (s.aux.set (ch.toNat - 2) { auxAt s ch.toNat with
            grant := .held terms s.now
              (exhaustionAt s.now (auxAt s ch.toNat).allowance (auxAt s ch.toNat).used terms.power) }) =
            heldSum s.aux + terms.power) ∧
        ((auxAt s ch.toNat).grant = .none →
          exec (.grantConfirm tag [ch]) s = .next (replied 0x0E#8 tag [8#8] s)) ∧
        ((auxAt s ch.toNat).grant = .queued →
          exec (.grantConfirm tag [ch]) s = .next (replied 0x0E#8 tag [2#8] s)) ∧
        (∀ terms confirmTime exhaustAt, (auxAt s ch.toNat).grant = .held terms confirmTime exhaustAt →
          exec (.grantConfirm tag [ch]) s = .next (replied 0x0E#8 tag [2#8] s))))

/-- GRANT_RELEASE: its checks in order; it ends an OFFERED or HELD grant, brings the used energy up to date, and one pass
runs over the channels and the queue with that grant ended (R62); no grant event is pushed for the release itself, and a
changed granted sum is a trigger (R52). -/
def Obligations.GrantReleaseEndsAGrant : Prop :=
  ∀ (tag ch : Byte) (s : State), GrantLaw s → Ready 0x0F#8 tag [ch] s →
    ((ch.toNat < 2 ∨ 11 < ch.toNat) →
      exec (.grantRelease tag [ch]) s = .next (replied 0x0F#8 tag [3#8] s)) ∧
    ((2 ≤ ch.toNat ∧ ch.toNat ≤ 11) →
      ((auxAt s ch.toNat).isOpen = false →
        exec (.grantRelease tag [ch]) s = .next (replied 0x0F#8 tag [6#8] s)) ∧
      (((auxAt s ch.toNat).isOpen = true ∧ (auxAt s ch.toNat).grant = .none) →
        exec (.grantRelease tag [ch]) s = .next (replied 0x0F#8 tag [8#8] s)) ∧
      (((auxAt s ch.toNat).isOpen = true ∧ (auxAt s ch.toNat).grant = .queued) →
        exec (.grantRelease tag [ch]) s = .next (replied 0x0F#8 tag [2#8] s)) ∧
      (((auxAt s ch.toNat).isOpen = true ∧ isGranted (auxAt s ch.toNat) = true) →
        ∃ t, exec (.grantRelease tag [ch]) s = .next t ∧
          Answered 0x0F#8 tag ([0#8, byteOf (grantCode (auxAt s ch.toNat).grant)] ++
            be16 (BitVec.ofNat 16 (usedAt s.now (auxAt s ch.toNat)))) s t ∧
          auxAt t ch.toNat = { auxAt s ch.toNat with
            used := usedAt s.now (auxAt s ch.toNat), grant := .none } ∧
          (∀ r : State, r = { s with aux := s.aux.set (ch.toNat - 2) { auxAt s ch.toNat with
              used := usedAt s.now (auxAt s ch.toNat), grant := .none } } →
            t.aux = (pass r).aux ∧ t.arbiter = (pass r).arbiter ∧ t.stack = (pass r).stack) ∧
          choose t = none ∧ GrantChangeHandedOn s t ∧ (s.arbiter.queue = [] → t.stack = s.stack) ∧
          Unchanged { aux := true, arbiter := true } s t))

/-- GRANT_WITHDRAW removes a QUEUED channel's ask, the others keeping their order, and replies with its position; any other
channel is ABSENT (R63).

PACING_CLEAR sets the used energy to 0, restarts a HELD grant's accrual with a fresh expiry, and replies with the used
energy as it stood; it ends no grant and starts no pass (R66).

ARBITER_SET: KEEP without a pattern only reads; otherwise mode and pattern are set, the pointer returns to slot 1 and a
pass runs; the reply carries the Arbiter's state after the request (R58), and a changed granted sum is a trigger (R52).

The one-byte positions and counts of the replies are the model's (log 9), and so is the cap on the used energy that
PACING_CLEAR shows of a HELD channel (log 19). -/
def Obligations.AsksPacingAndTheArbiterAreSet : Prop :=
  ((∀ (tag ch : Byte) (s : State), Ready 0x10#8 tag [ch] s →
      ((ch.toNat < 2 ∨ 11 < ch.toNat) →
        exec (.grantWithdraw tag [ch]) s = .next (replied 0x10#8 tag [3#8] s)) ∧
      ((2 ≤ ch.toNat ∧ ch.toNat ≤ 11) →
        ((auxAt s ch.toNat).isOpen = false ∨ (auxAt s ch.toNat).grant ≠ .queued →
          exec (.grantWithdraw tag [ch]) s = .next (replied 0x10#8 tag [6#8] s)) ∧
        ((auxAt s ch.toNat).isOpen = true ∧ (auxAt s ch.toNat).grant = .queued →
          ∀ before ask after, s.arbiter.queue = before ++ ask :: after → ask.channel = ch.toNat →
            (∀ a ∈ before ++ after, a.channel ≠ ch.toNat) →
            exec (.grantWithdraw tag [ch]) s = .next (replied 0x10#8 tag [0#8, byteOf (before.length + 1)]
              { s with
                arbiter := { s.arbiter with queue := before ++ after }
                aux := s.aux.set (ch.toNat - 2) { auxAt s ch.toNat with grant := .none } })))) ∧
   (∀ (tag ch : Byte) (s : State), Ready 0x11#8 tag [ch] s →
      ((ch.toNat < 2 ∨ 11 < ch.toNat) →
        exec (.pacingClear tag [ch]) s = .next (replied 0x11#8 tag [3#8] s)) ∧
      ((2 ≤ ch.toNat ∧ ch.toNat ≤ 11) →
        ((auxAt s ch.toNat).isOpen = false →
          exec (.pacingClear tag [ch]) s = .next (replied 0x11#8 tag [6#8] s)) ∧
        ((auxAt s ch.toNat).isOpen = true →
          (∀ terms confirmTime exhaustAt, (auxAt s ch.toNat).grant = .held terms confirmTime exhaustAt →
            exec (.pacingClear tag [ch]) s = .next (replied 0x11#8 tag
              (0#8 :: be16 (BitVec.ofNat 16 (usedAt s.now (auxAt s ch.toNat))))
              { s with
                  aux := s.aux.set (ch.toNat - 2) { auxAt s ch.toNat with
                  used := 0
                  grant := .held terms s.now
                    (exhaustionAt s.now (auxAt s ch.toNat).allowance 0 terms.power) } })) ∧
          ((∀ terms confirmTime exhaustAt, (auxAt s ch.toNat).grant ≠ .held terms confirmTime exhaustAt) →
            exec (.pacingClear tag [ch]) s = .next (replied 0x11#8 tag
              (0#8 :: be16 (BitVec.ofNat 16 (auxAt s ch.toNat).used))
              { s with
                  aux := s.aux.set (ch.toNat - 2) { auxAt s ch.toNat with used := 0 } })))))) ∧
  (∀ (tag mode given pattern : Byte) (s : State), Ready 0x12#8 tag [mode, given, pattern] s →
     ((2 < mode.toNat ∨ 1 < given.toNat) →
       exec (.arbiterSet tag [mode, given, pattern]) s = .next (replied 0x12#8 tag [3#8] s)) ∧
     ((mode = 2#8 ∧ given = 0#8) →
       exec (.arbiterSet tag [mode, given, pattern]) s =
         .next (replied 0x12#8 tag (0#8 ::
         ([byteOf (arbiterModeCode s.arbiter.mode), s.arbiter.pattern, byteOf s.arbiter.pointer] ++
         be16 (BitVec.ofNat 16 s.arbiter.batteryBudget) ++ be16 (BitVec.ofNat 16 s.arbiter.generationBudget) ++
         be16 (BitVec.ofNat 16 (grantedSum s.aux .battery)) ++
         be16 (BitVec.ofNat 16 (grantedSum s.aux .generation)) ++ be16 (BitVec.ofNat 16 (heldSum s.aux)) ++
         byteOf s.arbiter.queue.length :: s.arbiter.queue.flatMap fun a =>
           [byteOf a.channel, byteOf (classCode a.cls)] ++ be16 (BitVec.ofNat 16 a.power) ++ be32 a.arrival)) s)) ∧
     ((mode.toNat ≤ 2 ∧ given.toNat ≤ 1 ∧ ¬ (mode = 2#8 ∧ given = 0#8)) →
       ∃ t, exec (.arbiterSet tag [mode, given, pattern]) s = .next t ∧
         Answered 0x12#8 tag (0#8 ::
         ([byteOf (arbiterModeCode t.arbiter.mode), t.arbiter.pattern, byteOf t.arbiter.pointer] ++
         be16 (BitVec.ofNat 16 t.arbiter.batteryBudget) ++ be16 (BitVec.ofNat 16 t.arbiter.generationBudget) ++
         be16 (BitVec.ofNat 16 (grantedSum t.aux .battery)) ++
         be16 (BitVec.ofNat 16 (grantedSum t.aux .generation)) ++ be16 (BitVec.ofNat 16 (heldSum t.aux)) ++
         byteOf t.arbiter.queue.length :: t.arbiter.queue.flatMap fun a =>
           [byteOf a.channel, byteOf (classCode a.cls)] ++ be16 (BitVec.ofNat 16 a.power) ++ be32 a.arrival)) s t ∧
         t.arbiter.mode = (if mode = 0#8 then .fixed else if mode = 1#8 then .weighted else s.arbiter.mode) ∧
         t.arbiter.pattern = (if given = 1#8 then pattern else s.arbiter.pattern) ∧
         (t.arbiter.mode = .fixed → t.arbiter.pointer = 1) ∧
         (s.arbiter.queue = [] → t.arbiter.pointer = 1 ∧ t.aux = s.aux ∧ t.stack = s.stack) ∧
         GrantChangeHandedOn s t ∧
         (∀ set, set = { s with arbiter := { s.arbiter with
             mode := if mode = 0#8 then .fixed else if mode = 1#8 then .weighted else s.arbiter.mode
             pattern := if given = 1#8 then pattern else s.arbiter.pattern, pointer := 1 } } →
           t.arbiter = (pass set).arbiter ∧ t.aux = (pass set).aux) ∧
         t.arbiter.batteryBudget = s.arbiter.batteryBudget ∧
         t.arbiter.generationBudget = s.arbiter.generationBudget ∧ choose t = none ∧
         Unchanged { aux := true, arbiter := true } s t))

/-- Rounding to the nearest step with halves away from zero (R3), the used energy of a HELD grant (R64, R49) and the
exhaustion expiry (R65). R64 caps the stored used energy at 65000 Wh; that the value a read shows has the same cap is the
model's reading (log 19).

The overdraw check after an ACU report (R71): the limit is the HELD sum plus 1.0 kW. -/
def Obligations.EnergyIsAccountedAndOverdrawReported : Prop :=
  ((∀ x : Exact, 0 < x.den →
     2 * (x.round * Int.ofNat x.den - x.num).natAbs ≤ x.den ∧
     (2 * (x.round * Int.ofNat x.den - x.num).natAbs = x.den →
       x.num.natAbs ≤ x.round.natAbs * x.den)) ∧
   (∀ (now : TimeTag) (c : AuxChannel) terms confirmTime exhaustAt, c.grant = .held terms confirmTime exhaustAt →
     usedAt now c = min 65000 (c.used + (2 * (terms.power * (now - confirmTime).toNat) + 36000) / 72000)) ∧
   (∀ (confirmTime : TimeTag) (allowance used power : Nat), 0 < power →
     exhaustionAt confirmTime 0 used power = none ∧
     (0 < allowance → exhaustionAt confirmTime allowance used power =
       some (confirmTime + BitVec.ofNat 32 ((2 * ((allowance - used) * 36000) + power) / (2 * power)))))) ∧
  (∀ s : State,
     (s.link.acuDraw = none → overdrawCheck s = s) ∧
     ∀ draw, s.link.acuDraw = some draw →
       ((draw ≤ Int.ofNat (heldSum s.aux) + 10) →
         overdrawCheck s = { s with arbiter := { s.arbiter with overdrawTripped := false } }) ∧
       ((Int.ofNat (heldSum s.aux) + 10 < draw ∧ s.arbiter.overdrawTripped = true) → overdrawCheck s = s) ∧
       ((Int.ofNat (heldSum s.aux) + 10 < draw ∧ s.arbiter.overdrawTripped = false) →
         (overdrawCheck s).arbiter = { s.arbiter with overdrawTripped := true } ∧
         Logged [⟨s.now, .auxOverdraw, 4#16,
           BitVec.ofInt 16 draw ++ BitVec.ofNat 16 (heldSum s.aux + 10)⟩] s (overdrawCheck s) ∧
         Unchanged { arbiter := true } s (overdrawCheck s)))

/-- One arbitration pass (R50, R55 to R57, R59): in FIXED the head of ESSENTIAL is chosen where that class asks, else the
head of DEFERRABLE; in WEIGHTED the head of the pointer's class where it fits a pool, else that of the other class;
GENERATION is tried before BATTERY. The chosen ask leaves the queue and its channel becomes OFFERED with its confirm
timer, the pool's granted sum rises, GRANT_OFFERED is pushed, the pointer moves in WEIGHTED, and the pass goes on until
nothing is chosen. (The place of each offer among the offers, which R67 needs, is the model's field, log 10.)

Entry to LIMP (R68): every DEFERRABLE grant is revoked, in the order of R67, and every DEFERRABLE ask removed from head to
tail, each with GRANT_REVOKED; ESSENTIAL grants and asks stay, and a pass runs if a grant was revoked. Every command that
takes ACTIVE to LIMP leaves the channels and the Arbiter so, the overdraw mark of an ACU report apart, and pushes RUN_STATE
with the limp causes of that moment, of which there is one (R18, R19, R24). -/
def Obligations.PassesGrantTheHeads : Prop :=
  (∀ (s : State) (ask : Ask) (pool : Pool), s.arbiter.mode = .fixed →
    (choose s = some (ask, pool) ↔ IsHead ask s ∧ TakesPool ask pool s ∧
      (ask.cls = .deferrable → ∀ a ∈ s.arbiter.queue, a.cls = .deferrable))) ∧
  (∀ (s : State) (ask : Ask) (pool : Pool), s.arbiter.mode = .weighted →
    (choose s = some (ask, pool) ↔ IsHead ask s ∧ TakesPool ask pool s ∧
      (ask.cls ≠ (if s.arbiter.pattern.getLsbD (s.arbiter.pointer - 1) then .deferrable else .essential) →
        ∀ a p, IsHead a s → a.cls ≠ ask.cls → ¬ FitsPool a p s))) ∧
  (∀ s : State, choose s = none → pass s = s) ∧
  (∀ (s : State) (ask : Ask) (pool : Pool), GrantLaw s → choose s = some (ask, pool) →
    ∃ r, pass s = pass r ∧
      (∃ before after, s.arbiter.queue = before ++ ask :: after ∧ r.arbiter = { s.arbiter with
        queue := before ++ after
        offers := s.arbiter.offers + 1
        pointer := if s.arbiter.mode = .fixed then s.arbiter.pointer
          else if s.arbiter.pointer < 8 then s.arbiter.pointer + 1 else 1 }) ∧
      r.aux = s.aux.set (ask.channel - 2) { auxAt s ask.channel with
        grant := .offered ⟨ask.power, pool, s.now, s.arbiter.offers⟩
          (s.now + BitVec.ofNat 32 s.items.confirmTimeout) } ∧
      grantedSum r.aux pool = grantedSum s.aux pool + ask.power ∧
      (∀ other, other ≠ pool → grantedSum r.aux other = grantedSum s.aux other) ∧
      Logged [⟨s.now, .grantOffered, BitVec.ofNat 16 ask.channel,
        word32 (byteOf (ask.power / 256)) (byteOf ask.power) (byteOf (poolCode pool)) 0#8⟩] s r ∧
      PortKept s r ∧ Untriggered s r ∧ Unchanged { aux := true, arbiter := true } s r) ∧
  (∀ s : State, GrantLaw s → choose (pass s) = none) ∧
  (∀ s t : State, GrantLaw s → t = arbiterLimp s →
    ∃ revoked r, InRevocationOrder (fun c => isGranted c && decide (c.cls = .deferrable)) revoked s ∧
      (∀ ch, 2 ≤ ch → ch ≤ 11 → auxAt r ch =
        if (auxAt s ch).cls = .deferrable then grantEnded s.now (auxAt s ch) else auxAt s ch) ∧
      r.arbiter = { s.arbiter with queue := s.arbiter.queue.filter fun a => decide (a.cls = .essential) } ∧
      Logged (revokedEntries 1 revoked s ++
        removedEntries 1 (s.arbiter.queue.filter fun a => decide (a.cls = .deferrable)) s.now) s r ∧
      Unchanged { aux := true, arbiter := true } s r ∧
      (revoked = [] → t.aux = r.aux ∧ t.arbiter = r.arbiter ∧ t.stack = r.stack) ∧
      (revoked ≠ [] → t.aux = (pass r).aux ∧ t.arbiter = (pass r).arbiter ∧ t.stack = (pass r).stack) ∧
      GrantChangeHandedOn s t ∧ PortKept s t ∧ Unchanged { aux := true, arbiter := true } s t) ∧
  (∀ (c : Instr) (s t : State), s.run.state = .active → exec c s = .next t → t.run.state = .limp →
    t.aux = (arbiterLimp s).aux ∧
    t.arbiter = { (arbiterLimp s).arbiter with overdrawTripped := t.arbiter.overdrawTripped } ∧
    ∃ causes, causes ≠ LimpCauses.empty ∧ Pushed (runEntry s.now 2#16 causes) s t)

/-! ## The route horizon -/

/-- A segment record of SEGMENT_ADD is read as it is laid out, and only a record within the ranges of R74 is read. -/
def Obligations.SegmentRecordsAreReadAsLaidOut : Prop :=
  (∀ g : Segment, SegmentInRange g → segmentOf (segmentBytes g) = some g) ∧
  ∀ (p : List Byte) (g : Segment), segmentOf p = some g → SegmentInRange g

/-- PLAN_ORGANISE: refused outside STANDBY, then for another value; otherwise every list is emptied, the organisation taken,
the position set to 0 and the Tracker acts. -/
def Obligations.PlanOrganiseEmptiesTheHorizon : Prop :=
  ∀ (tag o : Byte) (s : State), Ready 0x13#8 tag [o] s →
    (s.run.state ≠ .standby → exec (.planOrganise tag [o]) s = .next (replied 0x13#8 tag [2#8] s)) ∧
    ((s.run.state = .standby ∧ 1 < o.toNat) →
      exec (.planOrganise tag [o]) s = .next (replied 0x13#8 tag [3#8] s)) ∧
    ((s.run.state = .standby ∧ o.toNat ≤ 1) →
      ∃ t, exec (.planOrganise tag [o]) s = .next t ∧ Answered 0x13#8 tag [0#8, o] s t ∧
        Tracked (if activeList s.horizon = [] then []
            else [⟨s.now, .horizonEmpty, BitVec.ofNat 16 (listCode (activeName s.horizon)), 2#32⟩])
          { s.horizon with
            paged := decide (o = 0#8), pageA := [], pageB := [], single := []
            activeA := decide (o = 0#8) || s.horizon.activeA
            swapPending := false, distance := 0, carry := 0 } s t ∧
        Unchanged { horizon := true, engine := true } s t)

/-- SEGMENT_ADD: RANGE, FULL and ORDER in that order; otherwise the record joins the tail of the loading list; the Tracker
acts in SINGLE and while a swap is pending (R75, R76).

PAGE_CLEAR empties the loading list and replies with the number of records removed; in SINGLE the horizon is emptied
with cause CLEARED; the Tracker acts in SINGLE and when a swap was cancelled (R77).

PAGE_SWAP: its checks in order; IMMEDIATE, and AT_BOUNDARY over an empty active page, swap at once with SWAP_DONE;
AT_BOUNDARY otherwise makes the swap pending and is ACCEPTED (R78, R79).

POSITION_FIX: its checks in order; otherwise the segments before the named one leave with SEGMENT_DONE SKIPPED, the
distance becomes the one given and the carry 0, and the Tracker acts (R85).

The one-byte counts of the replies are the model's (log 9), and where the Tracker's act stops the engine, the Solver's trigger
comes first (log 6). -/
def Obligations.SegmentsPagesAndThePositionAreSet : Prop :=
  (∀ (tag : Byte) (p : List Byte) (s : State), p.length = 12 → Ready 0x14#8 tag p s →
     (segmentOf p = none → exec (.segmentAdd tag p) s = .next (replied 0x14#8 tag [3#8] s)) ∧
     ∀ g, segmentOf p = some g →
       ((if s.horizon.paged then 64 else 128) ≤ (listNamed s.horizon (loadingName s.horizon)).length →
         exec (.segmentAdd tag p) s = .next (replied 0x14#8 tag [5#8] s)) ∧
       ((listNamed s.horizon (loadingName s.horizon)).length < (if s.horizon.paged then 64 else 128) →
         (∀ tail, (listNamed s.horizon (loadingName s.horizon)).getLast? = some tail → g.id ≤ tail.id →
           exec (.segmentAdd tag p) s = .next (replied 0x14#8 tag [4#8] s)) ∧
         ((∀ tail, (listNamed s.horizon (loadingName s.horizon)).getLast? = some tail → tail.id < g.id) →
           ((s.horizon.paged = true ∧ s.horizon.swapPending = false) →
             exec (.segmentAdd tag p) s = .next (replied 0x14#8 tag
               [0#8, byteOf (listCode (loadingName s.horizon)),
                 byteOf ((listNamed s.horizon (loadingName s.horizon)).length + 1),
                 byteOf ((listNamed s.horizon (loadingName s.horizon)).length + 1)]
               { s with
                 horizon := setListNamed (loadingName s.horizon)
                   (listNamed s.horizon (loadingName s.horizon) ++ [g]) s.horizon })) ∧
           ((s.horizon.paged = false ∨ s.horizon.swapPending = true) →
             ∃ t, exec (.segmentAdd tag p) s = .next t ∧
               Answered 0x14#8 tag [0#8, byteOf (listCode (loadingName s.horizon)),
                 byteOf ((listNamed s.horizon (loadingName s.horizon)).length + 1),
                 byteOf ((listNamed s.horizon (loadingName s.horizon)).length + 1)] s t ∧
               Tracked [] { setListNamed (loadingName s.horizon)
                   (listNamed s.horizon (loadingName s.horizon) ++ [g]) s.horizon with
                 distance := if s.horizon.paged = false ∧ s.horizon.single = [] then 0 else s.horizon.distance
                 carry := if s.horizon.paged = false ∧ s.horizon.single = [] then 0 else s.horizon.carry } s t ∧
               Unchanged { horizon := true, engine := true } s t)))) ∧
  ((∀ (tag : Byte) (s : State), Ready 0x15#8 tag [] s →
      ((s.horizon.paged = true ∧ s.horizon.swapPending = false) →
        exec (.pageClear tag []) s = .next (replied 0x15#8 tag [0#8, byteOf (standbyList s.horizon).length]
          { s with horizon := { setListNamed (loadingName s.horizon) [] s.horizon with swapPending := false } })) ∧
      ((s.horizon.paged = true ∧ s.horizon.swapPending = true) →
        ∃ t, exec (.pageClear tag []) s = .next t ∧
          Answered 0x15#8 tag [0#8, byteOf (standbyList s.horizon).length] s t ∧
          Tracked [] { setListNamed (loadingName s.horizon) [] s.horizon with swapPending := false } s t ∧
          Unchanged { horizon := true, engine := true } s t) ∧
      (s.horizon.paged = false →
        ∃ t, exec (.pageClear tag []) s = .next t ∧
          Answered 0x15#8 tag [0#8, byteOf s.horizon.single.length] s t ∧
          Tracked (if s.horizon.single = [] then [] else [⟨s.now, .horizonEmpty, 2#16, 1#32⟩])
            { s.horizon with single := [], distance := 0, carry := 0 } s t ∧
          Unchanged { horizon := true, engine := true } s t)) ∧
   (∀ (tag form : Byte) (s : State), Ready 0x16#8 tag [form] s →
      (1 < form.toNat → exec (.pageSwap tag [form]) s = .next (replied 0x16#8 tag [3#8] s)) ∧
      (form.toNat ≤ 1 →
        (s.horizon.paged = false → exec (.pageSwap tag [form]) s = .next (replied 0x16#8 tag [2#8] s)) ∧
        (s.horizon.paged = true →
          (standbyList s.horizon = [] → exec (.pageSwap tag [form]) s = .next (replied 0x16#8 tag [6#8] s)) ∧
          (standbyList s.horizon ≠ [] →
            ((form = 0#8 ∨ activeList s.horizon = []) →
              ∃ t, exec (.pageSwap tag [form]) s = .next t ∧ Answered 0x16#8 tag [0#8] s t ∧
                Tracked [⟨s.now, .swapDone, if s.horizon.activeA then 1#16 else 0#16,
                  word32 form 0#8 (byteOf ((activeList s.horizon).length / 256))
                    (byteOf (activeList s.horizon).length)⟩] (swappedHorizon s.horizon) s t ∧
                Unchanged { horizon := true, engine := true } s t) ∧
            ((form = 1#8 ∧ activeList s.horizon ≠ []) →
              (s.horizon.swapPending = true → exec (.pageSwap tag [form]) s = .next (replied 0x16#8 tag [1#8] s)) ∧
              (s.horizon.swapPending = false →
                ∃ t, exec (.pageSwap tag [form]) s = .next t ∧ Answered 0x16#8 tag [1#8] s t ∧
                  Tracked [] { s.horizon with swapPending := true } s t ∧
                  Unchanged { horizon := true, engine := true } s t))))))) ∧
  (∀ (tag i1 i0 d1 d0 : Byte) (s : State), Ready 0x17#8 tag [i1, i0, d1, d0] s →
     (word16 i1 i0 = 0#16 →
       exec (.positionFix tag [i1, i0, d1, d0]) s = .next (replied 0x17#8 tag [3#8] s)) ∧
     ((word16 i1 i0 ≠ 0#16 ∧ ∀ g ∈ activeList s.horizon, g.id ≠ (word16 i1 i0).toNat) →
       exec (.positionFix tag [i1, i0, d1, d0]) s = .next (replied 0x17#8 tag [6#8] s)) ∧
     ∀ before g after, word16 i1 i0 ≠ 0#16 → activeList s.horizon = before ++ g :: after →
       g.id = (word16 i1 i0).toNat → (∀ x ∈ before, x.id ≠ g.id) →
       (g.length ≤ (word16 d1 d0).toNat →
         exec (.positionFix tag [i1, i0, d1, d0]) s = .next (replied 0x17#8 tag [3#8] s)) ∧
       ((word16 d1 d0).toNat < g.length →
         ∃ t, exec (.positionFix tag [i1, i0, d1, d0]) s = .next t ∧
           Answered 0x17#8 tag [0#8, byteOf before.length] s t ∧
           Tracked (before.map fun x => ⟨s.now, .segmentDone, BitVec.ofNat 16 x.id, 1#32⟩)
             { setActiveList (g :: after) s.horizon with distance := (word16 d1 d0).toNat, carry := 0 } s t ∧
           Unchanged { horizon := true, engine := true } s t))

/-- A reported distance (R81 to R84): with no active segment it is dropped; less than a metre only fills the carry; otherwise
the position moves and no decimetre is lost, each head whose length is reached completes with SEGMENT_DONE COMPLETED, and the
overshoot is the distance into the next head. A pending swap is made at the first boundary with SWAP_DONE, and completions
go on in the new list; when no head is left HORIZON_EMPTY is pushed and the position is 0. The Tracker then acts, its trigger
before the stop of the engine (log 6). A full report of the MIU that is taken moves the position so. -/
def Obligations.ReportedDistanceMovesThePosition : Prop :=
  (∀ (dm metres carry : Nat) (s t : State), HorizonLaw s → t = takeDistance dm s →
    metres = (s.horizon.distance * 10 + s.horizon.carry + dm) / 10 → carry = (s.horizon.carry + dm) % 10 →
    (activeList s.horizon = [] → t = s) ∧
    (activeList s.horizon ≠ [] → metres = s.horizon.distance →
      t = { s with horizon := { s.horizon with carry := carry } }) ∧
    (s.horizon.swapPending = false → metres ≠ s.horizon.distance →
      (∀ passed next more, activeList s.horizon = passed ++ next :: more →
        (passed.map (·.length)).sum ≤ metres → metres < (passed.map (·.length)).sum + next.length →
        Tracked (passed.map fun g => ⟨s.now, .segmentDone, BitVec.ofNat 16 g.id, 0#32⟩)
          { setActiveList (next :: more) s.horizon with
            distance := metres - (passed.map (·.length)).sum, carry := carry } s t) ∧
      (activeList s.horizon ≠ [] → ((activeList s.horizon).map (·.length)).sum ≤ metres →
        Tracked (((activeList s.horizon).map fun g => ⟨s.now, .segmentDone, BitVec.ofNat 16 g.id, 0#32⟩) ++
            [⟨s.now, .horizonEmpty, BitVec.ofNat 16 (listCode (activeName s.horizon)), 0#32⟩])
          { setActiveList [] s.horizon with distance := 0, carry := 0 } s t)) ∧
    (∀ g rest, s.horizon.swapPending = true → activeList s.horizon = g :: rest → metres < g.length →
      metres ≠ s.horizon.distance →
      Tracked [] { s.horizon with distance := metres, carry := carry } s t) ∧
    (∀ g rest first, s.horizon.swapPending = true → activeList s.horizon = g :: rest → g.length ≤ metres →
      first = [⟨s.now, .segmentDone, BitVec.ofNat 16 g.id, 0#32⟩,
        ⟨s.now, .swapDone, if s.horizon.activeA then 1#16 else 0#16,
          word32 1#8 0#8 (byteOf (rest.length / 256)) (byteOf rest.length)⟩] →
      (∀ passed next more, standbyList s.horizon = passed ++ next :: more →
        g.length + (passed.map (·.length)).sum ≤ metres →
        metres < g.length + (passed.map (·.length)).sum + next.length →
        Tracked (first ++ passed.map fun x => ⟨s.now, .segmentDone, BitVec.ofNat 16 x.id, 0#32⟩)
          { setActiveList (next :: more) (swappedHorizon s.horizon) with
            distance := metres - (g.length + (passed.map (·.length)).sum), carry := carry } s t) ∧
      (g.length + ((standbyList s.horizon).map (·.length)).sum ≤ metres →
        Tracked (first ++ ((standbyList s.horizon).map fun x =>
              ⟨s.now, .segmentDone, BitVec.ofNat 16 x.id, 0#32⟩) ++
            [⟨s.now, .horizonEmpty, if s.horizon.activeA then 1#16 else 0#16, 0#32⟩])
          { setActiveList [] (swappedHorizon s.horizon) with distance := 0, carry := 0 } s t))) ∧
  (∀ (record : List Byte) (s : State) (quiet : Bool) (txn : Txn) (left : List UnitId), s.resetHeld = false →
    s.link.frame = .inFrame ⟨quiet, .transaction txn, left⟩ → txn.phase = .waiting → txn.unit = .miu →
    receivedInFull record = true → wellFormed txn s.link.miu.settings record = true →
    (statusPattern s.link.miu.settings (reportFlags .miu record) = 0#8 ∨
      s.link.miu.settings.retryIfStatusSet = false) →
    ∃ t, exec (.reportReceived record) s = .next t ∧
      ((isBrief record = true ∨ 2550 < nat16 record 13) → t.horizon = s.horizon) ∧
      (isBrief record = false → nat16 record 13 ≤ 2550 →
        t.horizon = (takeDistance (nat16 record 13) s).horizon))

/-- PAYLOAD_SET: a class above 4 is RANGE; the class held changes nothing further; another one makes the Tracker act.

CONSUMPTION_SET: STATE outside STANDBY, then RANGE; otherwise all nine entries are replaced and the Tracker acts.

What every act of the Tracker computes: the look-ahead sequence (R91), the zero-emission run and its segment energies
(R88, R89, R92), the reserve and the distance to the run (R93), charge-ahead (R94), the target and SHORT (R95), and the
active segment's fields of the zone context (R87, R97). Where it stops the engine, the Solver's trigger comes first (log 6). -/
def Obligations.PayloadAndConsumptionAreSet : Prop :=
  (∀ (tag c : Byte) (s : State), Ready 0x19#8 tag [c] s →
     (4 < c.toNat → exec (.payloadSet tag [c]) s = .next (replied 0x19#8 tag [3#8] s)) ∧
     ((c.toNat ≤ 4 ∧ c.toNat = s.horizon.payloadClass) →
       exec (.payloadSet tag [c]) s = .next (replied 0x19#8 tag [0#8, c] s)) ∧
     ((c.toNat ≤ 4 ∧ c.toNat ≠ s.horizon.payloadClass) →
       ∃ t, exec (.payloadSet tag [c]) s = .next t ∧ Answered 0x19#8 tag [0#8, c] s t ∧
         Tracked [] { s.horizon with payloadClass := c.toNat } s t ∧
         Unchanged { horizon := true, engine := true } s t)) ∧
  (∀ (tag : Byte) (p : List Byte) (s : State), p.length = 18 → Ready 0x1A#8 tag p s →
     (s.run.state ≠ .standby → exec (.consumptionSet tag p) s = .next (replied 0x1A#8 tag [2#8] s)) ∧
     (s.run.state = .standby →
       (((∃ i, i < 7 ∧ 2000 < nat16 p (2 * i)) ∨ 500 < nat16 p 14 ∨ 500 < nat16 p 16) →
         exec (.consumptionSet tag p) s = .next (replied 0x1A#8 tag [3#8] s)) ∧
       (((∀ i, i < 7 → nat16 p (2 * i) ≤ 2000) ∧ nat16 p 14 ≤ 500 ∧ nat16 p 16 ≤ 500) →
         ∃ t, exec (.consumptionSet tag p) s = .next t ∧ Answered 0x1A#8 tag [0#8] s t ∧
           Tracked [] { s.horizon with
             consumption := ⟨nat16 p 0, nat16 p 2, nat16 p 4, nat16 p 6, nat16 p 8, nat16 p 10, nat16 p 12,
               nat16 p 14, nat16 p 16⟩ } s t ∧
           Unchanged { horizon := true, engine := true } s t))) ∧
  (∀ (items : Items) (h : Horizon) (c : ZoneContext), c = contextOf items h →
    activeList h = listAhead h ∧ lookAhead h = sequenceAhead h ∧
    (∀ g rest, listAhead h = g :: rest → c.segmentId = g.id ∧ c.zone = g.zone ∧ c.dwell = g.dwell.getD false ∧
      c.floor = g.floor.getD items.socFloor) ∧
    (listAhead h = [] → c.segmentId = 0 ∧ c.zone = items.defaultZone ∧ c.dwell = false ∧ c.floor = items.socFloor) ∧
    ((∀ g ∈ sequenceAhead h, g.zone ≠ .zeroEmission) → reserveOf h = 0 ∧ runDistanceOf h = none ∧
      c.chargeAhead = false ∧ c.target = none ∧ c.short = false) ∧
    (∀ before first behind more after reserve target, sequenceAhead h = before ++ first :: behind →
      (∀ g ∈ before, g.zone ≠ .zeroEmission) → first.zone = .zeroEmission →
      behind = more ++ after → (∀ g ∈ more, g.zone = .zeroEmission) → (∀ g ∈ after.head?, g.zone ≠ .zeroEmission) →
      (∀ g ∈ (sequenceAhead h).head?, h.distance ≤ g.length) → (∀ g ∈ first :: more, -3 ≤ g.grade ∧ g.grade ≤ 3) →
      0 < items.batteryCapacity → reserve = min 65000 (runEnergy h before first more).sum →
      target = (2 * ((first.floor.getD items.socFloor + items.chargeMargin) * items.batteryCapacity + reserve * 1000) +
        items.batteryCapacity) / (2 * items.batteryCapacity) →
      zeroRun (lookAhead h) = first :: more ∧ reserveOf h = reserve ∧
      runDistanceOf h = some (distanceAhead h before) ∧
      c.chargeAhead = decide (before ≠ [] ∧ distanceAhead h before ≤ items.lookAhead) ∧
      c.target = some (min 1000 target) ∧ c.short = decide (1000 < target)))

/-! ## The split solve -/

/-- SPLIT_READ replies with the current record, the solve state and REPEAT, the latch, the note and the table, in every
state (the two solve-state codes are free, log 8).

A command other than FULL_RESET leaves the current record, or publishes one with the next serial (R122). -/
def Obligations.TheRecordIsReadAndItsSerialRises : Prop :=
  (∀ (tag : Byte) (s : State) (r : SplitRecord), r = s.solver.record → Ready 0x1B#8 tag [] s →
     exec (.splitRead tag []) s = .next (replied 0x1B#8 tag
       (0#8 :: (be32 r.serial ++ be32 r.tag ++
         [byteOf (runStateCode r.runState), byteOf (zoneCode r.zone), byteOf (modeCode r.mode)] ++
         flag r.engineWanted ++ [byteOf (clutchCode r.clutch)] ++ be16 (BitVec.ofInt 16 r.engineTorque) ++
         be16 (BitVec.ofInt 16 r.mgTorque) ++ be16 (BitVec.ofInt 16 r.tractionAsked) ++
         be16 (BitVec.ofInt 16 r.tractionDelivered) ++ be16 (BitVec.ofInt 16 r.batteryPower) ++
         be16 (BitVec.ofInt 16 r.batteryBudget) ++ be16 (BitVec.ofInt 16 r.generationBudget) ++
         [byteOf (boolCode r.conditions.overflow + 2 * boolCode r.conditions.underflow +
           4 * boolCode r.conditions.divideCheck + 8 * boolCode r.conditions.invalid)] ++ flag r.chargeLatch ++
         [Config.unlistedCode (if s.solver.solve.isSome then .solveInFlight else .solveIdle)] ++
         flag s.solver.repeatMark ++ flag s.solver.latch ++ be16 (BitVec.ofNat 16 (s.solver.depletion.getD 0)) ++
         [byteOf (modesCode s.solver.table.openZone), byteOf (modesCode s.solver.table.lowEmission),
           byteOf (modesCode s.solver.table.zeroEmission), byteOf (modesCode s.solver.table.quiet)])) s)) ∧
  (∀ (c : Instr) (s t : State), (∀ straps levels, c ≠ .fullReset straps levels) → exec c s = .next t →
     t.solver.record = s.solver.record ∨
       (c = .solveCompletion ∧ t.solver.record.serial =
         if s.solver.record.serial = 0xFFFFFFFF#32 then 1#32 else s.solver.record.serial + 1#32))

/-- ZONE_TABLE_SET: its checks in order; otherwise the zone's row becomes the set, the other rows stay, the reply carries
the table, and a different row is a trigger. -/
def Obligations.ZoneTableSetReplacesARow : Prop :=
  ∀ (tag zone set : Byte) (s : State), Ready 0x1E#8 tag [zone, set] s →
    (s.run.state ≠ .standby → exec (.zoneTableSet tag [zone, set]) s = .next (replied 0x1E#8 tag [2#8] s)) ∧
    (s.run.state = .standby →
      ((3 < zone.toNat ∨ 64 ≤ set.toNat ∨ set.getLsbD 0 = false ∨
          (zone = 2#8 ∧ (set.getLsbD 1 || set.getLsbD 2 || set.getLsbD 3 || set.getLsbD 5) = true)) →
        exec (.zoneTableSet tag [zone, set]) s = .next (replied 0x1E#8 tag [3#8] s)) ∧
      (∀ z, zoneCode z = zone.toNat → set.toNat < 64 → set.getLsbD 0 = true →
        (z = .zeroEmission →
          (set.getLsbD 1 || set.getLsbD 2 || set.getLsbD 3 || set.getLsbD 5) = false) →
        ∃ t, exec (.zoneTableSet tag [zone, set]) s = .next t ∧
          Answered 0x1E#8 tag [0#8, byteOf (modesCode t.solver.table.openZone),
            byteOf (modesCode t.solver.table.lowEmission), byteOf (modesCode t.solver.table.zeroEmission),
            byteOf (modesCode t.solver.table.quiet)] s t ∧
          tableRow t.solver.table z = modesOf set ∧
          (∀ y, y ≠ z → tableRow t.solver.table y = tableRow s.solver.table y) ∧
          { lasting t.solver with table := s.solver.table } = lasting s.solver ∧
          (modesOf set ≠ tableRow s.solver.table z → Triggered s t) ∧
          (modesOf set = tableRow s.solver.table z → Untriggered s t) ∧
          t.stack = s.stack ∧ Unchanged { solver := true } s t))

/-- SOLVE_COMPLETION (R100, R102, R122): a discarded solve changes only the solve state; a publication makes the record
current with the next serial, sets the holds of its conditions, with HOLD_SET for each newly set one while TRAPPING is ON
(R13, R14), takes its latch, notes a depletion with ZONE_DEPLETED (R123), and hands its budgets to the Arbiter, which revokes
grants down to them, GENERATION first, and runs its pass (R51, R67), and its engine_wanted to the Sequencer (R130). That
nothing happens while IDLE is the model's choice (log 1), that the repeated solve starts before the Arbiter and the Sequencer
take the record is log 7, and that HOLD_SET carries the record's time tag is log 26.

The snapshot of a solve (R101): a solve starts with the values of that moment, and after every command the solve it started
has that moment's time tag, SVC, latch, table and items. The place of an offer among the offers is the model's field
(log 10). -/
def Obligations.SolveCompletionPublishesOrDiscards : Prop :=
  (∀ s : State, snapshotOf s = snapshotAt s ∧
    (s.solver.solve = none → trigger s = { s with solver := { s.solver with solve := some (snapshotAt s) } }) ∧
    (s.solver.solve.isSome = true → trigger s = { s with solver := { s.solver with repeatMark := true } })) ∧
  (∀ (c : Instr) (s t : State) (n : Snapshot), exec c s = .next t → s.solver.solve = none → t.solver.solve = some n →
    n.tag = s.now ∧ n.svc = t.lines.svc.level ∧ n.latch = t.solver.latch ∧ n.table = t.solver.table ∧
    n.fitMode = t.items.fitMode ∧ n.trapping = t.items.trapping ∧ n.warmCap = t.items.warmCap ∧
    n.engineBaseTorque = t.items.engineBaseTorque ∧ n.chargePower = t.items.chargePower ∧
    n.parkedChargePower = t.items.parkedChargePower ∧ n.limpCap = t.items.limpCap) ∧
  (∀ s : State, s.resetHeld = false →
    (s.solver.solve = none → exec .solveCompletion s = .next s) ∧
    ∀ n, s.solver.solve = some n →
      ((s.run.state = .standby ∨ n.runState = .standby) →
        exec .solveCompletion s = .next { s with solver := { s.solver with
          solve := if s.solver.repeatMark then some (snapshotAt s) else none, repeatMark := false } }) ∧
      ((s.run.state ≠ .standby ∧ n.runState ≠ .standby) →
        ∃ t, exec .solveCompletion s = .next t ∧ PortKept s t ∧
          t.solver.record = { solveRecord n with
            serial := if s.solver.record.serial = 0xFFFFFFFF#32 then 1#32 else s.solver.record.serial + 1#32 } ∧
          t.solver.ofThisDrive = true ∧ t.solver.table = s.solver.table ∧
          t.solver.latch = (solveRecord n).chargeLatch ∧
          (∀ name, holdOfName t.solver.holds name =
            if carries (solveRecord n).conditions name then ⟨true, t.solver.record.serial⟩
            else holdOfName s.solver.holds name) ∧
          t.solver.depletion = (if depletion n then some n.context.segmentId
            else if s.solver.depletion = some n.context.segmentId then s.solver.depletion else none) ∧
          (∀ sums engines, sums = decide (grantedSum t.aux .battery ≠ grantedSum s.aux .battery ∨
              grantedSum t.aux .generation ≠ grantedSum s.aux .generation) →
            engines = decide (t.engine.state ≠ s.engine.state) →
            (s.solver.repeatMark = true →
              t.solver.solve = some (snapshotAt { t with aux := s.aux, engine := s.engine }) ∧
              t.solver.repeatMark = (sums || engines)) ∧
            (s.solver.repeatMark = false → t.solver.repeatMark = (sums && engines) ∧
              (sums = true → t.solver.solve = some (snapshotAt { t with engine := s.engine })) ∧
              (sums = false → engines = true → t.solver.solve = some (snapshotAt t)) ∧
              (sums = false → engines = false → t.solver.solve = none))) ∧
          t.arbiter.batteryBudget = (solveRecord n).batteryBudget.toNat ∧
          t.arbiter.generationBudget = (solveRecord n).generationBudget.toNat ∧
          grantedSum t.aux .battery ≤ t.arbiter.batteryBudget ∧
          grantedSum t.aux .generation ≤ t.arbiter.generationBudget ∧ choose t = none ∧
          t.engine.wanted = (solveRecord n).engineWanted ∧
          (∀ name, s.items.trapping = true → carries (solveRecord n).conditions name = true →
            (holdOfName s.solver.holds name).isSet = false →
            Pushed ⟨n.tag, .holdSet, BitVec.ofNat 16 (holdCode name), t.solver.record.serial⟩ s t) ∧
          (∀ soc, n.soc = some soc → depletion n = true → s.solver.depletion ≠ some n.context.segmentId →
            Pushed ⟨s.now, .zoneDepleted, BitVec.ofNat 16 n.context.segmentId, BitVec.ofInt 32 soc⟩ s t) ∧
          (∀ b, b = { s with arbiter := { s.arbiter with
              batteryBudget := (solveRecord n).batteryBudget.toNat
              generationBudget := (solveRecord n).generationBudget.toNat } } → GrantLaw s →
            ∃ generation battery g r, RevokedToBudget .generation b.arbiter.generationBudget generation b g ∧
              RevokedToBudget .battery b.arbiter.batteryBudget battery g r ∧
              t.aux = (pass r).aux ∧ t.arbiter = (pass r).arbiter ∧
              (s.arbiter.queue = [] →
                (s.engine.state ≠ .off ∧ s.engine.state ≠ .running ∧ s.engine.state ≠ .holding) →
                Logged ((([HoldName.overflow, .underflow, .divideCheck, .invalid].filter fun name =>
                    s.items.trapping && carries (solveRecord n).conditions name &&
                      !(holdOfName s.solver.holds name).isSet).map (fun name =>
                    ⟨n.tag, .holdSet, BitVec.ofNat 16 (holdCode name), t.solver.record.serial⟩) ++
                  (if depletion n = true ∧ s.solver.depletion ≠ some n.context.segmentId then
                    [⟨s.now, .zoneDepleted, BitVec.ofNat 16 n.context.segmentId, BitVec.ofInt 32 (n.soc.getD 0)⟩]
                  else [])) ++ revokedEntries 0 generation s ++ revokedEntries 0 battery s) s t)) ∧
          Unchanged { solver := true, aux := true, arbiter := true, engine := true } s t))

/-- The mode of every record is permitted: an engine mode only in ACTIVE and with the zone's row naming it, REGEN with the
row naming it, LIMP exactly in LIMP; with the engine not wanted its torque is 0 and the clutch OPEN.

Every torque and power of a record is within its kind's range, the shares are within the limits of the snapshot, the
engine's never below 0, and 0 with an INVALID one (R8). The new latch follows the SOC by the three tests of R105: ON, OFF, or
the latch held, as it is with an INVALID SOC. -/
def Obligations.RecordsKeepToModesAndRanges : Prop :=
  (∀ n : Snapshot,
     ((solveRecord n).mode = .limp ↔ n.runState = .limp) ∧
     ((solveRecord n).mode = .assist → n.runState = .active ∧ (tableRow n.table n.context.zone).assist = true) ∧
     ((solveRecord n).mode = .charge → n.runState = .active ∧ (tableRow n.table n.context.zone).charge = true) ∧
     ((solveRecord n).mode = .engineOnly →
       n.runState = .active ∧ (tableRow n.table n.context.zone).engineOnly = true) ∧
     ((solveRecord n).mode = .parkedCharge →
       n.runState = .active ∧ (tableRow n.table n.context.zone).parkedCharge = true) ∧
     ((solveRecord n).mode = .regen → (tableRow n.table n.context.zone).regen = true) ∧
     ((solveRecord n).engineWanted = false →
       (solveRecord n).engineTorque = 0 ∧ (solveRecord n).clutch = .opened) ∧
     ((solveRecord n).engineTorque ≠ 0 → n.engine = .running ∨ n.engine = .warming)) ∧
  (∀ n : Snapshot,
     (0 ≤ (solveRecord n).engineTorque ∧ (solveRecord n).engineTorque ≤ 2000) ∧
     (-2000 ≤ (solveRecord n).mgTorque ∧ (solveRecord n).mgTorque ≤ 2000) ∧
     (-2000 ≤ (solveRecord n).tractionDelivered ∧ (solveRecord n).tractionDelivered ≤ 2000) ∧
     (-2000 ≤ (solveRecord n).batteryPower ∧ (solveRecord n).batteryPower ≤ 2000) ∧
     (0 ≤ (solveRecord n).batteryBudget ∧ (solveRecord n).batteryBudget ≤ 2000) ∧
     (0 ≤ (solveRecord n).generationBudget ∧ (solveRecord n).generationBudget ≤ 2000) ∧
     (n.available = none → (solveRecord n).engineTorque = 0) ∧
     (∀ a, n.available = some a → (solveRecord n).engineTorque ≤ max 0 a) ∧
     (∀ m g, n.motoring = some m → n.generating = some g → 0 ≤ m → 0 ≤ g →
       -g ≤ (solveRecord n).mgTorque ∧ (solveRecord n).mgTorque ≤ m) ∧
     ((n.motoring = none ∨ n.generating = none) → (solveRecord n).mgTorque = 0) ∧
     (n.svc = true → (solveRecord n).batteryBudget = 0) ∧
     (n.soc = none → (solveRecord n).chargeLatch = n.latch) ∧
     (∀ soc, n.soc = some soc →
       (soc ≤ n.context.floor → (solveRecord n).chargeLatch = true) ∧
       (n.context.chargeAhead = false → n.context.floor + 10 ≤ soc → (solveRecord n).chargeLatch = false) ∧
       (n.context.chargeAhead = false → n.context.floor < soc → soc < n.context.floor + 10 →
         (solveRecord n).chargeLatch = n.latch) ∧
       (∀ target, n.context.chargeAhead = true → n.context.target = some target →
         (soc < target → (solveRecord n).chargeLatch = true) ∧
         (n.context.floor < soc → target + 10 ≤ soc → (solveRecord n).chargeLatch = false) ∧
         (n.context.floor < soc → target ≤ soc → soc < target + 10 → (solveRecord n).chargeLatch = n.latch))))

/-- Mode selection (R103, R105 to R109): the steps of R106 in order, on the traction taken, the brake taken, the new latch
and the modes that the zone's row permits, with engine modes in ACTIVE and LIMP alone; the EV test; engine_wanted and the
clutch request; and the fields the record takes from its snapshot. -/
def Obligations.SolvesSelectTheMode : Prop :=
  ∀ (n : Snapshot) (row : ModeSet) (latch engines : Bool), row = tableRow n.table n.context.zone →
    latch = (solveRecord n).chargeLatch → engines = decide (n.runState = .active ∨ n.runState = .limp) →
    (n.runState = .limp → (solveRecord n).mode = .limp) ∧
    (n.runState ≠ .limp →
      ((0 < brakeUsed n ∧ tractionUsed n = 0) → (solveRecord n).mode = if row.regen then .regen else .ev) ∧
      (¬ (0 < brakeUsed n ∧ tractionUsed n = 0) →
        (((∃ v ∈ n.shaftSpeed, v < 300) ∧ tractionUsed n = 0 ∧ n.context.dwell = true ∧ row.parkedCharge = true ∧
            engines = true ∧ latch = true) → (solveRecord n).mode = .parkedCharge) ∧
        (¬ ((∃ v ∈ n.shaftSpeed, v < 300) ∧ tractionUsed n = 0 ∧ n.context.dwell = true ∧ row.parkedCharge = true ∧
            engines = true ∧ latch = true) →
          ((latch = true ∧ row.charge = true ∧ engines = true) → (solveRecord n).mode = .charge) ∧
          (¬ (latch = true ∧ row.charge = true ∧ engines = true) →
            (EvTestMet n → (solveRecord n).mode = .ev) ∧
            (¬ EvTestMet n →
              ((row.assist = true ∧ engines = true) → (solveRecord n).mode = .assist) ∧
              (¬ (row.assist = true ∧ engines = true) →
                ((n.motoring = none ∨ n.motoring = some 0) → row.engineOnly = true → engines = true →
                  (solveRecord n).mode = .engineOnly) ∧
                (¬ ((n.motoring = none ∨ n.motoring = some 0) ∧ row.engineOnly = true ∧ engines = true) →
                  (solveRecord n).mode = .ev))))))) ∧
    ((solveRecord n).engineWanted = true ↔
      (solveRecord n).mode = .assist ∨ (solveRecord n).mode = .charge ∨ (solveRecord n).mode = .engineOnly ∨
        (solveRecord n).mode = .parkedCharge ∨
        ((solveRecord n).mode = .limp ∧ ¬ EvTestMet n ∧ row.assist = true)) ∧
    (solveRecord n).clutch = (if (solveRecord n).engineWanted = false then .opened
      else if (solveRecord n).mode = .parkedCharge ∨ ∃ v ∈ n.shaftSpeed, 300 ≤ v then .closed else .slip) ∧
    (solveRecord n).tag = n.tag ∧ (solveRecord n).runState = n.runState ∧ (solveRecord n).zone = n.context.zone ∧
    (solveRecord n).tractionAsked = n.traction.getD 0

/-- Apportioning (R8, R10, R11, R108, R110 to R115): EV, every fallback and REGEN give the MG alone its share; ENGINE_ONLY
the engine alone; ASSIST, CHARGE, PARKED_CHARGE and the engine split of LIMP form a wanted pair, which SATURATE clips share
by share and PROPORTIONAL scales by the largest factor, at most 1, that keeps both shares within their bounds, or takes from
the other share alone where one has an INVALID bound; traction delivered is the sum, and 0 in PARKED_CHARGE. Where negative
limits put the MG's lower bound above its upper one, a share alone is clipped to the upper one first (the model's choice,
log 12). -/
def Obligations.SolvesApportionTheTorques : Prop :=
  (∀ n : Snapshot, ((solveRecord n).mode ≠ .regen ∧ ¬ EnginePerformed n) →
    (solveRecord n).engineTorque = 0 ∧ (solveRecord n).mgTorque = mgAlone n (tractionUsed n)) ∧
  (∀ n : Snapshot, (solveRecord n).mode = .regen →
    (solveRecord n).engineTorque = 0 ∧ (solveRecord n).mgTorque = mgAlone n (regenUsed n)) ∧
  (∀ n : Snapshot, (solveRecord n).mode = .engineOnly → EngineAvailable n →
    (solveRecord n).engineTorque = engineAlone n (underWarmCap n (tractionUsed n)) ∧ (solveRecord n).mgTorque = 0) ∧
  (∀ (n : Snapshot) (engine mg : Int), EnginePerformed n → WantedPair n (solveRecord n).mode engine mg →
    n.fitMode = .saturate →
    (solveRecord n).engineTorque = engineAlone n engine ∧ (solveRecord n).mgTorque = mgAlone n mg) ∧
  (∀ (n : Snapshot) (engine mg a m g : Int), EnginePerformed n → WantedPair n (solveRecord n).mode engine mg →
    n.fitMode = .proportional → n.available = some a → n.motoring = some m → n.generating = some g →
    (0 ≤ a ∧ a ≤ 2000) → (0 ≤ m ∧ m ≤ 2000) → (0 ≤ g ∧ g ≤ 2000) →
    ∃ up down : Nat, 0 < down ∧ up ≤ down ∧
      engine * up ≤ a * down ∧ -g * down ≤ mg * up ∧ mg * up ≤ m * down ∧
      (up = down ∨ (0 < engine ∧ engine * up = a * down) ∨ (0 < mg ∧ mg * up = m * down) ∨
        (mg < 0 ∧ mg * up = -g * down)) ∧
      (solveRecord n).engineTorque = (⟨engine * up, down⟩ : Exact).round ∧
      (solveRecord n).mgTorque = (⟨mg * up, down⟩ : Exact).round) ∧
  (∀ (n : Snapshot) (engine mg : Int), EnginePerformed n → WantedPair n (solveRecord n).mode engine mg →
    n.fitMode = .proportional →
    (n.available = none → (∀ m ∈ n.motoring, 0 ≤ m) → (∀ g ∈ n.generating, 0 ≤ g) →
      (solveRecord n).engineTorque = 0 ∧ (solveRecord n).mgTorque = mgAlone n mg) ∧
    ((n.motoring = none ∨ n.generating = none) → (∀ a ∈ n.available, 0 ≤ a) →
      (solveRecord n).mgTorque = 0 ∧ (solveRecord n).engineTorque = engineAlone n engine)) ∧
  (∀ n : Snapshot, (solveRecord n).tractionDelivered =
    if (solveRecord n).mode = .parkedCharge ∧ EngineAvailable n then 0
    else clip (-2000) 2000 ((solveRecord n).engineTorque + (solveRecord n).mgTorque))

/-- The check of a named computation (R7, R8), the battery power and the pool budgets of a record (R117 to R119), and the
conditions of every record as the union over its computations (R12): INVALID exactly where a computation performed has an
INVALID operand (R6), DIVIDE_CHECK exactly where one converts a power below 300 rpm (R7), OVERFLOW exactly with a
DIVIDE_CHECK while TRAPPING is OFF or a result above its upper bound, and UNDERFLOW exactly with an INVALID or a result below
its lower bound, never both in one computation (R8); of a PROPORTIONAL pair only the share that gives the smallest ratio
raises the condition of the bound it crosses (R11). Where negative limits put a lower bound above the upper one, the upper
one is tested first (the model's choice, log 12); the INVALID operand of BATTERY_BUDGET is met before SVC (log 11). -/
def Obligations.SolvesBudgetThePoolsAndRaiseConditions : Prop :=
  (∀ (exact : Exact) (lo hi : Int) (divide trapping : Bool), lo ≤ hi →
    (compute exact lo hi divide trapping).value = clip lo hi exact.round ∧
    ((compute exact lo hi divide trapping).conditions.overflow = true ↔
      hi < exact.round ∨ (divide = true ∧ trapping = false)) ∧
    ((compute exact lo hi divide trapping).conditions.underflow = true ↔
      exact.round < lo ∧ ¬ (divide = true ∧ trapping = false)) ∧
    (compute exact lo hi divide trapping).conditions.divideCheck = divide ∧
    (compute exact lo hi divide trapping).conditions.invalid = false) ∧
  (∀ (exact : Exact) (lo hi : Int) (divide trapping : Bool),
    ¬ ((compute exact lo hi divide trapping).conditions.overflow = true ∧
      (compute exact lo hi divide trapping).conditions.underflow = true)) ∧
  (∀ (fit : FitMode) (engine mg : Int) (available motoring generating : Qty) (share : Computed),
    (share = (fitShares fit engine mg available motoring generating).1 ∨
      share = (fitShares fit engine mg available motoring generating).2) →
    ¬ (share.conditions.overflow = true ∧ share.conditions.underflow = true)) ∧
  (∀ (n : Snapshot) (power : Int),
    power = (match n.shaftSpeed with
      | some v => if MgPerformed n then clip (-2000) 2000 (asPower (solveRecord n).mgTorque v) else 0
      | none => 0) →
    (∀ d l, n.discharge = some d → n.chargeLimit = some l →
      (solveRecord n).batteryPower = clip (inKind (-l)) (inKind d) (power + n.batterySum)) ∧
    ((n.discharge = none ∨ n.chargeLimit = none) → (solveRecord n).batteryPower = 0) ∧
    (∀ d, n.discharge = some d → (solveRecord n).batteryBudget =
      if n.svc then 0 else clip 0 2000 (max 0 (d - max power 0))) ∧
    (n.discharge = none → (solveRecord n).batteryBudget = 0)) ∧
  (∀ n : Snapshot,
    (∀ a v, n.engine = .running → (solveRecord n).clutch = .closed → n.available = some a → n.engineSpeed = some v →
      (solveRecord n).generationBudget = clip 0 2000 (asPower (a - (solveRecord n).engineTorque) v)) ∧
    ((n.engine ≠ .running ∨ (solveRecord n).clutch ≠ .closed ∨ n.available = none ∨ n.engineSpeed = none) →
      (solveRecord n).generationBudget = 0)) ∧
  (∀ n : Snapshot,
    ((solveRecord n).conditions.invalid = true ↔
      n.traction = none ∨ (n.runState ≠ .limp ∧ n.brake = none) ∨
      ((solveRecord n).mode = .charge ∧ EngineAvailable n ∧ n.shaftSpeed = none) ∨
      ((solveRecord n).mode = .parkedCharge ∧ EngineAvailable n ∧ n.engineSpeed = none) ∨
      ((solveRecord n).mode = .regen ∧ (n.generating = none ∨ n.chargeLimit = none ∨ n.shaftSpeed = none)) ∨
      (EnginePerformed n ∧ n.available = none) ∨
      (MgPerformed n ∧ (n.motoring = none ∨ n.generating = none ∨ n.shaftSpeed = none)) ∨
      n.discharge = none ∨ n.chargeLimit = none ∨
      (n.engine = .running ∧ (solveRecord n).clutch = .closed ∧ (n.available = none ∨ n.engineSpeed = none))) ∧
    ((solveRecord n).conditions.invalid = true → (solveRecord n).conditions.underflow = true) ∧
    ((solveRecord n).conditions.divideCheck = true ↔
      ((solveRecord n).mode = .charge ∧ EngineAvailable n ∧ ∃ v ∈ n.shaftSpeed, v < 300) ∨
      ((solveRecord n).mode = .parkedCharge ∧ EngineAvailable n ∧ ∃ v ∈ n.engineSpeed, v < 300) ∨
      ((solveRecord n).mode = .regen ∧ n.generating ≠ none ∧ n.chargeLimit ≠ none ∧
        ∃ v ∈ n.shaftSpeed, v < 300)) ∧
    ((solveRecord n).conditions.divideCheck = true → n.trapping = false →
      (solveRecord n).conditions.overflow = true)) ∧
  (∀ n : Snapshot, ¬ ScaledPair n → (n.fitMode = .saturate ∨ LimitsAreMagnitudes n) →
    ((solveRecord n).conditions.overflow = true ↔
      ((solveRecord n).conditions.divideCheck = true ∧ n.trapping = false) ∨
      ∃ x ∈ torqueChecks n ++ shareChecks n ++ powerChecks n, x.Over) ∧
    ((solveRecord n).conditions.underflow = true ↔
      (solveRecord n).conditions.invalid = true ∨
      ∃ x ∈ torqueChecks n ++ shareChecks n ++ powerChecks n, x.Under)) ∧
  (∀ (n : Snapshot) (engine mg a m g : Int), ScaledPair n → LimitsAreMagnitudes n →
    engine = wantedEngine n → mg = wantedMg n →
    n.available = some a → n.motoring = some m → n.generating = some g →
    ((solveRecord n).conditions.overflow = true ↔
      ((solveRecord n).conditions.divideCheck = true ∧ n.trapping = false) ∨
      (∃ x ∈ torqueChecks n ++ powerChecks n, x.Over) ∨
      (a < engine ∧ (m < mg → a * mg ≤ m * engine) ∧ (mg < -g → a * -mg ≤ g * engine)) ∨
      (m < mg ∧ (a < engine → m * engine ≤ a * mg))) ∧
    ((solveRecord n).conditions.underflow = true ↔
      (solveRecord n).conditions.invalid = true ∨
      (∃ x ∈ torqueChecks n ++ powerChecks n, x.Under) ∨
      (mg < -g ∧ (a < engine → g * engine ≤ a * -mg))))

/-- A push adds the entry after the newest, over the oldest at 128 with OVERRUN set; the push that makes 64 is followed by
STACK_HALF; the notice slot takes an entry of the notice mask, over the notice held there, which a free line has begun to send
and a busy one never sends (R179, R180, R183, R184; that the line counts as begun at the next push is the model's, log 5). At
64 entries STACK_HALF is a second notice of the same push: where both kinds are in the mask, a free line with an empty slot has
begun the first of the two and the slot holds the second. -/
def Obligations.PushesJoinTheStack : Prop :=
  ∀ (kind : EventKind) (subject : Nat) (detail : Word32) (s : State),
    (s.stack.entries.length < 128 → s.stack.entries.length ≠ 63 →
      (push kind subject detail s).stack =
        { s.stack with entries := s.stack.entries ++ [⟨s.now, kind, BitVec.ofNat 16 subject, detail⟩] }) ∧
    (s.stack.entries.length ≠ 63 →
      (push kind subject detail s).port.notice =
        (if inMask s.port.noticeMask kind then some ⟨s.now, kind, BitVec.ofNat 16 subject, detail⟩
          else s.port.notice) ∧
      (∀ held, inMask s.port.noticeMask kind = true → s.port.notice = some held → s.port.transmitting = none →
        s.port.replies = [] →
        (push kind subject detail s).port.transmitting = some ⟨0xFF#8, 0#8, entryBytes held⟩) ∧
      ((inMask s.port.noticeMask kind = false ∨ s.port.notice = none ∨ s.port.transmitting ≠ none ∨
          s.port.replies ≠ []) → (push kind subject detail s).port.transmitting = s.port.transmitting)) ∧
    (∀ oldest more, s.stack.entries = oldest :: more → s.stack.entries.length = 63 →
      (push kind subject detail s).stack =
        { s.stack with entries := s.stack.entries ++
          [⟨s.now, kind, BitVec.ofNat 16 subject, detail⟩, ⟨s.now, .stackHalf, 0#16, oldest.tag⟩] } ∧
      (push kind subject detail s).port.notice =
        (if inMask s.port.noticeMask .stackHalf then some ⟨s.now, .stackHalf, 0#16, oldest.tag⟩
          else if inMask s.port.noticeMask kind then some ⟨s.now, kind, BitVec.ofNat 16 subject, detail⟩
          else s.port.notice) ∧
      ((s.port.transmitting = none ∧ s.port.replies = []) →
        (∀ held, s.port.notice = some held →
          (inMask s.port.noticeMask kind = true ∨ inMask s.port.noticeMask .stackHalf = true) →
          (push kind subject detail s).port.transmitting = some ⟨0xFF#8, 0#8, entryBytes held⟩) ∧
        ((s.port.notice = none ∧ inMask s.port.noticeMask kind = true ∧ inMask s.port.noticeMask .stackHalf = true) →
          (push kind subject detail s).port.transmitting =
            some ⟨0xFF#8, 0#8, entryBytes ⟨s.now, kind, BitVec.ofNat 16 subject, detail⟩⟩)) ∧
      ((s.port.transmitting ≠ none ∨ s.port.replies ≠ [] ∨
          (inMask s.port.noticeMask kind = false ∧ inMask s.port.noticeMask .stackHalf = false) ∨
          (s.port.notice = none ∧
            (inMask s.port.noticeMask kind = false ∨ inMask s.port.noticeMask .stackHalf = false))) →
        (push kind subject detail s).port.transmitting = s.port.transmitting)) ∧
    (∀ oldest more, s.stack.entries = oldest :: more → s.stack.entries.length = 128 →
      (push kind subject detail s).stack =
        { s.stack with
          entries := more ++ [⟨s.now, kind, BitVec.ofNat 16 subject, detail⟩], overrun := true }) ∧
    PortKept s (push kind subject detail s) ∧
    ((push kind subject detail s).outputs.alert =
      (push kind subject detail s).stack.entries.any fun e => inMask s.stack.alertMask e.kind)

/-! ## The engine -/

/-- ENGINE_REARM takes a BARRED engine, whose EU is PRESENT and did not report FIRING, to OFF; otherwise STATE (R140).

CRANK_LIMIT_EXPIRY in CRANKING fails the attempt: RESTING while one remains, else BARRED with START_FAIL (R133).

REST_EXPIRY in RESTING: OFF unless the engine is wanted, in ACTIVE or LIMP, in an engine zone; else the next attempt
begins: CRANKING on the path chosen, or a failure at once with START_FAILED (R131, R133, R134).

That a row without its cause changes nothing, and that a row may be taken at or after its expiry, are the model's choices
(logs 1 and 2). -/
def Obligations.EngineIsRearmedCrankedAndRested : Prop :=
  ((∀ (tag : Byte) (s : State), Ready 0x20#8 tag [] s →
      (¬ (s.engine.state = .barred ∧ s.link.eu.health = .present ∧ s.link.eu.flags.getLsbD 5 = false) →
        exec (.engineRearm tag []) s = .next (replied 0x20#8 tag [2#8] s)) ∧
      ((s.engine.state = .barred ∧ s.link.eu.health = .present ∧ s.link.eu.flags.getLsbD 5 = false) →
        ∃ t, exec (.engineRearm tag []) s = .next t ∧ Answered 0x20#8 tag [0#8] s t ∧
          t.engine = { s.engine with state := .off, bar := none, attempt := 0, path := none, faultNoted := false } ∧
          Triggered s t ∧ Logged [⟨s.now, .engineState, 0#16, detail4 7 16 0 0⟩] s t ∧
          Unchanged { engine := true } s t)) ∧
   (∀ s : State, s.resetHeld = false →
      ((s.engine.state ≠ .cranking ∨ expired s.now s.engine.timer = false) →
        exec .crankLimitExpiry s = .next s) ∧
      ((s.engine.state = .cranking ∧ expired s.now s.engine.timer = true) →
        ((s.engine.attempt ≤ 1 ∨ (s.engine.attempt = 2 ∧ s.items.retry2 ≠ .off)) →
          ∃ t, exec .crankLimitExpiry s = .next t ∧ PortKept s t ∧
            t.engine = { s.engine with
              state := .resting, timer := some (s.now + BitVec.ofNat 32 s.items.restTime) } ∧
            Triggered s t ∧
            Logged [⟨s.now, .startFailed, BitVec.ofNat 16 s.engine.attempt,
                detail4 (pathCode s.engine.path) 0 0 0⟩,
              ⟨s.now, .engineState, 2#16, detail4 1 3 0 0⟩] s t ∧
            Unchanged { engine := true } s t) ∧
        (¬ (s.engine.attempt ≤ 1 ∨ (s.engine.attempt = 2 ∧ s.items.retry2 ≠ .off)) →
          ∃ t, exec .crankLimitExpiry s = .next t ∧ PortKept s t ∧
            t.engine = { s.engine with state := .barred, bar := some .startFail, timer := none } ∧
            Triggered s t ∧
            Logged [⟨s.now, .startFailed, BitVec.ofNat 16 s.engine.attempt,
                detail4 (pathCode s.engine.path) 0 0 0⟩,
              ⟨s.now, .engineState, 7#16, detail4 1 3 0 0⟩,
              ⟨s.now, .engineBarred, 1#16, BitVec.ofNat 32 s.engine.attempt⟩] s t ∧
            Unchanged { engine := true } s t)))) ∧
  (∀ s : State, s.resetHeld = false →
     ((s.engine.state ≠ .resting ∨ expired s.now s.engine.timer = false) → exec .restExpiry s = .next s) ∧
     ((s.engine.state = .resting ∧ expired s.now s.engine.timer = true) →
       ∃ t, exec .restExpiry s = .next t ∧ PortKept s t ∧ Unchanged { engine := true } s t ∧
         ((s.engine.wanted = false ∨ driving s = false ∨ inEngineZone s = false) →
           t.engine = { s.engine with state := .off, timer := none } ∧ Triggered s t ∧
           Logged [⟨s.now, .engineState, 0#16, detail4 2 4 0 0⟩] s t) ∧
         ((s.engine.wanted = true ∧ driving s = true ∧ inEngineZone s = true) →
           (∀ path, euFault s = false →
             pathChosen { s with engine := { s.engine with attempt := s.engine.attempt + 1 } } = some path →
             t.engine.state = .cranking ∧ t.engine.attempt = s.engine.attempt + 1 ∧ t.engine.path = some path ∧
             t.engine.timer = some (s.now + BitVec.ofNat 32 s.items.crankLimit) ∧ Triggered s t ∧
             Logged [⟨s.now, .engineState, 1#16, detail4 2 4 0 0⟩] s t) ∧
           ((euFault s = true ∨
               pathChosen { s with engine := { s.engine with attempt := s.engine.attempt + 1 } } = none) →
             t.engine.attempt = s.engine.attempt + 1 ∧
             ((s.engine.attempt = 0 ∨ (s.engine.attempt = 1 ∧ s.items.retry2 ≠ .off)) →
               t.engine.state = .resting ∧
               Logged [⟨s.now, .startFailed, BitVec.ofNat 16 (s.engine.attempt + 1),
                 detail4 (pathCode t.engine.path) (if euFault s then 1 else 2) 0 0⟩] s t ∧
               t.engine.timer = some (s.now + BitVec.ofNat 32 s.items.restTime) ∧ Untriggered s t) ∧
             (¬ (s.engine.attempt = 0 ∨ (s.engine.attempt = 1 ∧ s.items.retry2 ≠ .off)) →
               t.engine.state = .barred ∧ t.engine.bar = some .startFail ∧ t.engine.timer = none ∧
               Logged [⟨s.now, .startFailed, BitVec.ofNat 16 (s.engine.attempt + 1),
                   detail4 (pathCode t.engine.path) (if euFault s then 1 else 2) 0 0⟩,
                 engineEntry s.now 7 2 4,
                 ⟨s.now, .engineBarred, 1#16, BitVec.ofNat 32 (s.engine.attempt + 1)⟩] s t ∧
               Triggered s t)))))

/-- The warm limit ends a warm-up, and the min-run expiry ends HOLDING (R135, R136).

STOP_LIMIT_EXPIRY in STOPPING: BARRED with STOP_FAIL on a firing engine, else BARRED with FAULT where a fault was
noted, else OFF (R137).

That a row without its cause changes nothing, and that a row may be taken at or after its expiry, are the model's choices
(logs 1 and 2). -/
def Obligations.WarmMinRunAndStopLimitsExpire : Prop :=
  (∀ s : State, s.resetHeld = false →
     ((s.engine.state ≠ .warming ∨ expired s.now s.engine.timer = false) → exec .warmLimitExpiry s = .next s) ∧
     ((s.engine.state = .warming ∧ expired s.now s.engine.timer = true) →
       ∃ t, exec .warmLimitExpiry s = .next t ∧ PortKept s t ∧ Unchanged { engine := true } s t ∧
         Triggered s t ∧
         (s.engine.wanted = true → t.engine = { s.engine with state := .running, timer := none } ∧
           Logged [⟨s.now, .engineState, 4#16, detail4 3 6 0 0⟩] s t) ∧
         (s.engine.wanted = false → minRunUnexpired s = true →
           t.engine = { s.engine with state := .holding, timer := none } ∧
           Logged [⟨s.now, .engineState, 5#16, detail4 3 6 0 0⟩] s t) ∧
         (s.engine.wanted = false → minRunUnexpired s = false →
           t.engine = { s.engine with state := .stopping, timer := some (s.now + 3000#32) } ∧
           Logged [⟨s.now, .engineState, 6#16, detail4 3 6 0 0⟩] s t)) ∧
     ((s.engine.state ≠ .holding ∨ expired s.now s.engine.minRun = false) → exec .minRunExpiry s = .next s) ∧
     ((s.engine.state = .holding ∧ expired s.now s.engine.minRun = true) →
       ∃ t, exec .minRunExpiry s = .next t ∧ PortKept s t ∧ Unchanged { engine := true } s t ∧ Triggered s t ∧
         t.engine = { s.engine with state := .stopping, timer := some (s.now + 3000#32) } ∧
         Logged [⟨s.now, .engineState, 6#16, detail4 5 7 0 0⟩] s t)) ∧
  (∀ s : State, s.resetHeld = false →
     ((s.engine.state ≠ .stopping ∨ expired s.now s.engine.timer = false) → exec .stopLimitExpiry s = .next s) ∧
     ((s.engine.state = .stopping ∧ expired s.now s.engine.timer = true) →
       ∃ t, exec .stopLimitExpiry s = .next t ∧ PortKept s t ∧ Unchanged { engine := true } s t ∧
         Triggered s t ∧
         (s.link.eu.flags.getLsbD 5 = true →
           t.engine = { s.engine with
             state := .barred, bar := some .stopFail, faultNoted := false, timer := none } ∧
           Logged [⟨s.now, .engineState, 7#16, detail4 6 9 0 0⟩,
             ⟨s.now, .engineBarred, 2#16, BitVec.ofNat 32 s.engine.attempt⟩] s t) ∧
         (s.link.eu.flags.getLsbD 5 = false → s.engine.faultNoted = true →
           t.engine = { s.engine with
             state := .barred, bar := some .fault, faultNoted := false, timer := none } ∧
           Logged [⟨s.now, .engineState, 7#16, detail4 6 8 0 0⟩,
             ⟨s.now, .engineBarred, 3#16, BitVec.ofNat 32 s.engine.attempt⟩] s t) ∧
         (s.link.eu.flags.getLsbD 5 = false → s.engine.faultNoted = false →
           t.engine = { s.engine with state := .off, faultNoted := false, timer := none } ∧
           Logged [⟨s.now, .engineState, 0#16, detail4 6 8 0 0⟩] s t)))

/-- The Sequencer takes a published record (R129 to R131), whose engine_wanted it keeps: from OFF a start sequence begins
where the start conditions hold, on the path that attempt 1 uses, or fails at once with NO_PATH; RUNNING goes to HOLDING or
STOPPING when the engine is no longer wanted, and HOLDING back to RUNNING when it is. Every attempt names its path by the
items and uses it where available, else the other one (R129). -/
def Obligations.RecordsStartHoldAndStopTheEngine : Prop :=
  (∀ s : State,
    (s.engine.attempt ≤ 1 → pathNamed s = s.items.firstPath) ∧
    (∀ before, (s.engine.path = some before ∨ (s.engine.path = none ∧ s.engine.named = some before)) →
      (s.engine.attempt = 2 → pathNamed s = if s.items.retry1 = .same then before else otherPath before) ∧
      (s.engine.attempt = 3 → s.items.retry2 ≠ .off →
        pathNamed s = if s.items.retry2 = .same then before else otherPath before)) ∧
    ∀ path, pathChosen s = some path ↔ UsesPath s path) ∧
  (∀ (s : State) (n : Snapshot) (wanted starts : Bool) (row : ModeSet), s.resetHeld = false →
    s.solver.solve = some n → s.run.state ≠ .standby → n.runState ≠ .standby →
    wanted = (solveRecord n).engineWanted → row = tableRow s.solver.table s.horizon.context.zone →
    starts = (decide (s.run.state = .active ∨ s.run.state = .limp) &&
      (row.assist || row.charge || row.engineOnly || row.parkedCharge) && !s.lines.svc.level &&
      decide (s.link.eu.health = .present) && !s.link.eu.flags.getLsbD 1) →
    ∃ t, exec .solveCompletion s = .next t ∧
      ((s.engine.state ≠ .off ∧ s.engine.state ≠ .running ∧ s.engine.state ≠ .holding) ∨
          (s.engine.state = .off ∧ (wanted = false ∨ starts = false)) ∨ (s.engine.state = .running ∧ wanted = true) ∨
          (s.engine.state = .holding ∧ wanted = false) →
        t.engine = { s.engine with wanted := wanted }) ∧
      (s.engine.state = .running → wanted = false → t.solver.solve.isSome = true ∧
        (MinRunAhead s s.engine.minRun → t.engine = { s.engine with wanted := false, state := .holding } ∧
          Pushed (engineEntry s.now 5 4 1) s t) ∧
        (¬ MinRunAhead s s.engine.minRun → t.engine = { s.engine with
            wanted := false, state := .stopping, timer := some (s.now + 3000#32) } ∧
          Pushed (engineEntry s.now 6 4 1) s t)) ∧
      (s.engine.state = .holding → wanted = true → t.solver.solve.isSome = true ∧
        t.engine = { s.engine with wanted := true, state := .running } ∧ Pushed (engineEntry s.now 4 5 0) s t) ∧
      (s.engine.state = .off → wanted = true → starts = true → t.solver.solve.isSome = true ∧
        (∀ path, UsesPath { s with engine := { s.engine with attempt := 1 } } path →
          t.engine = { s.engine with
            wanted := true, attempt := 1, faultNoted := false, bar := none, state := .cranking, path := some path
            named := some s.items.firstPath, timer := some (s.now + BitVec.ofNat 32 s.items.crankLimit) } ∧
          Pushed (engineEntry s.now 1 0 0) s t) ∧
        ((∀ path, ¬ UsesPath { s with engine := { s.engine with attempt := 1 } } path) →
          t.engine = { s.engine with
            wanted := true, attempt := 1, faultNoted := false, bar := none, state := .resting, path := none
            named := some s.items.firstPath, timer := some (s.now + BitVec.ofNat 32 s.items.restTime) } ∧
          Pushed ⟨s.now, .startFailed, 1#16, detail4 0xFF 2 0 0⟩ s t ∧ Pushed (engineEntry s.now 2 0 0) s t)))

/-- EU reports in each engine state (R132, R133, R135, R137, R139), the EU's loss (R141) and its restoration (R142), and
that a taken EU report reaches the Sequencer with its flags and measurements (R128, R165). Where one report meets two rules
that the spec does not order, the order is the model's choice (log 17); a report's place before the Solver's trigger is the
model's (log 6). -/
def Obligations.EngineTakesReportsLossAndRestoration : Prop :=
  (∀ (entered : Bool) (s t : State), (s.engine.state ≠ .detached ∨ entered = false) → t = engineTakeReport entered s →
    PortKept s t ∧ Unchanged { engine := true } s t ∧
    (s.engine.state = .cranking →
      (Faulty s → AttemptFailed 1 s t) ∧
      (¬ Faulty s → ¬ (Firing s ∧ ∃ v ∈ s.link.euMeas.engineSpeed, 600 ≤ v) → t = s) ∧
      (¬ Faulty s → Firing s → (∃ v ∈ s.link.euMeas.engineSpeed, 600 ≤ v) →
        ∀ minRun, minRun = some (s.now + BitVec.ofNat 32 (1000 * s.items.minRun)) → Triggered s t ∧
          (¬ CatalystReady s → t.engine = { s.engine with
              state := .warming, minRun := minRun
              timer := some (s.now + BitVec.ofNat 32 (1000 * s.items.warmLimit)) } ∧
            Logged [engineEntry s.now 3 1 2] s t) ∧
          (CatalystReady s → s.engine.wanted = true →
            t.engine = { s.engine with state := .running, minRun := minRun, timer := none } ∧
            Logged [engineEntry s.now 4 1 2] s t) ∧
          (CatalystReady s → s.engine.wanted = false → MinRunAhead s minRun →
            t.engine = { s.engine with state := .holding, minRun := minRun, timer := none } ∧
            Logged [engineEntry s.now 4 1 2, engineEntry s.now 5 4 1] s t) ∧
          (CatalystReady s → s.engine.wanted = false → ¬ MinRunAhead s minRun →
            t.engine = { s.engine with
              state := .stopping, minRun := minRun, timer := some (s.now + 3000#32) } ∧
            Logged [engineEntry s.now 4 1 2, engineEntry s.now 6 4 1] s t))) ∧
    (s.engine.state = .warming →
      (Faulty s → StopOrdered 3 13 true s t) ∧
      (¬ Faulty s → ¬ CatalystReady s → t = s) ∧
      (¬ Faulty s → CatalystReady s → Triggered s t ∧
        (s.engine.wanted = true → t.engine = { s.engine with state := .running, timer := none } ∧
          Logged [engineEntry s.now 4 3 5] s t) ∧
        (s.engine.wanted = false → MinRunAhead s s.engine.minRun →
          t.engine = { s.engine with state := .holding, timer := none } ∧ Logged [engineEntry s.now 5 3 5] s t) ∧
        (s.engine.wanted = false → ¬ MinRunAhead s s.engine.minRun → StopOrdered 3 5 false s t))) ∧
    (s.engine.state = .running → (Faulty s → StopOrdered 4 13 true s t) ∧ (¬ Faulty s → t = s)) ∧
    (s.engine.state = .holding → (Faulty s → StopOrdered 5 13 true s t) ∧ (¬ Faulty s → t = s)) ∧
    (s.engine.state = .stopping →
      ((Firing s ∨ ¬ ∃ v ∈ s.link.euMeas.engineSpeed, v < 100) →
        t.engine = { s.engine with faultNoted := s.link.eu.flags.getLsbD 1 || s.engine.faultNoted } ∧
        t.stack = s.stack ∧ Untriggered s t) ∧
      (¬ Firing s → (∃ v ∈ s.link.euMeas.engineSpeed, v < 100) → Triggered s t ∧
        ((Faulty s ∨ s.engine.faultNoted = true) →
          t.engine = { s.engine with state := .barred, bar := some .fault, faultNoted := false, timer := none } ∧
          Logged [engineEntry s.now 7 6 8,
            ⟨s.now, .engineBarred, 3#16, BitVec.ofNat 32 s.engine.attempt⟩] s t) ∧
        (¬ (Faulty s ∨ s.engine.faultNoted = true) →
          t.engine = { s.engine with state := .off, timer := none } ∧ Logged [engineEntry s.now 0 6 8] s t))) ∧
    ((s.engine.state = .off ∨ s.engine.state = .resting ∨ s.engine.state = .barred ∨ s.engine.state = .detached) →
      t = s)) ∧
  (∀ s t : State, t = engineLost s → PortKept s t ∧ Unchanged { engine := true } s t ∧
    ((s.engine.state = .barred ∨ s.engine.state = .detached) → t = s) ∧
    ((s.engine.state ≠ .barred ∧ s.engine.state ≠ .detached) →
      t.engine = { s.engine with state := .detached, timer := none, minRun := none, faultNoted := false } ∧
      Triggered s t ∧ Logged [engineEntry s.now 8 (engineCode s.engine.state) 14] s t)) ∧
  (∀ (s t : State) (row : ModeSet) (free : Prop), s.engine.state = .detached → t = engineTakeReport true s →
    row = tableRow s.solver.table s.horizon.context.zone →
    free = ((s.run.state = .active ∨ s.run.state = .limp) ∧
      (row.assist || row.charge || row.engineOnly || row.parkedCharge) = true ∧ s.lines.svc.level = false) →
    PortKept s t ∧ Unchanged { engine := true } s t ∧ Triggered s t ∧
    (¬ Firing s → t.engine = { s.engine with state := .off } ∧ Logged [engineEntry s.now 0 8 15] s t) ∧
    (Firing s → free → ¬ Faulty s → s.engine.wanted = true →
      t.engine = { s.engine with state := .running, minRun := some s.now } ∧ Logged [engineEntry s.now 4 8 15] s t) ∧
    (Firing s → ¬ (free ∧ ¬ Faulty s ∧ s.engine.wanted = true) →
      ∃ cause, Logged [engineEntry s.now 4 8 15, engineEntry s.now 6 4 cause] s t ∧
        t.engine = { s.engine with
          state := .stopping, minRun := some s.now, timer := some (s.now + 3000#32)
          faultNoted := decide (cause = 13) || s.engine.faultNoted } ∧
        cause = (if ¬ (s.run.state = .active ∨ s.run.state = .limp) then 11
          else if (row.assist || row.charge || row.engineOnly || row.parkedCharge) = false then 10
          else if s.lines.svc.level then 12 else if s.link.eu.flags.getLsbD 1 then 13 else 1))) ∧
  (∀ (record : List Byte) (s : State) (quiet : Bool) (txn : Txn) (left : List UnitId), s.resetHeld = false →
    s.link.frame = .inFrame ⟨quiet, .transaction txn, left⟩ → txn.phase = .waiting → txn.unit = .eu → FrameLaw s →
    receivedInFull record = true → wellFormed txn s.link.eu.settings record = true →
    (statusPattern s.link.eu.settings (reportFlags .eu record) = 0#8 ∨
      s.link.eu.settings.retryIfStatusSet = false) →
    ∃ t m, exec (.reportReceived record) s = .next t ∧
      t.engine = (engineTakeReport (decide (s.link.eu.health = .lost ∨ s.link.eu.health = .joining)) m).engine ∧
      m.now = s.now ∧ m.engine = s.engine ∧ m.items = s.items ∧ m.lines = s.lines ∧ m.horizon = s.horizon ∧
      m.solver.table = s.solver.table ∧ (driving m = driving s) ∧ m.link.eu.health = .present ∧
      m.link.eu.flags = reportFlags .eu record ∧
      m.link.euMeas = (if isBrief record then s.link.euMeas else ⟨measureUnsigned 8000 record 5,
        measureSigned (-2000) 2000 record 7, measureSigned (-2000) 2000 record 9, measureSigned (-40) 1000 record 11,
        clutchOf (nat8 record 13)⟩))

/-! ## The unit link -/

/-- UNIT_SET: its checks in order; otherwise the settings are replaced, the pattern and lane counters cleared, and the
health follows the enabled setting, with the measurements, the limp cause and the trigger that go with it (R148). The
measurements' time tag is kept (log 23), and the engine takes no notice of the EU's health change (log 29).

Settings are read as they are laid out, and only settings within their values are read. -/
def Obligations.UnitSetReplacesTheSettings : Prop :=
  (∀ (tag : Byte) (p : List Byte) (s : State), p.length = 9 → Ready 0x21#8 tag p s →
     (s.run.state ≠ .standby → exec (.unitSet tag p) s = .next (replied 0x21#8 tag [2#8] s)) ∧
     (s.run.state = .standby →
       ((nat8 p 0 = 0 ∨ 4 < nat8 p 0) → exec (.unitSet tag p) s = .next (replied 0x21#8 tag [3#8] s)) ∧
       ∀ u, unitCode u = nat8 p 0 →
         (settingsGiven u p = none → exec (.unitSet tag p) s = .next (replied 0x21#8 tag [3#8] s)) ∧
         ∀ g, settingsGiven u p = some g →
           ∃ t health, exec (.unitSet tag p) s = .next t ∧
             health = (if g.enabled then
               (if (unitRecord s.link u).settings.enabled then (unitRecord s.link u).health else .joining)
               else .disabled) ∧
             Answered 0x21#8 tag (0#8 :: (flag g.enabled ++ [g.expected, g.mask, byteOf (retry1Code g.retry1),
               byteOf (retry2Code g.retry2)] ++ flag g.retryIfStatusSet ++ flag g.briefBusy ++
               [match g.copyTo with
                 | some destination => byteOf (unitCode destination)
                 | none => 0#8] ++ [byteOf (healthCode health)])) s t ∧
             unitRecord t.link u = { unitRecord s.link u with
               settings := g, statusSet := 0#8, onA := ⟨0, 0, 0, 0, 0, 0, 0⟩, onB := ⟨0, 0, 0, 0, 0, 0, 0⟩
               health := health
               missed := if (unitRecord s.link u).settings.enabled && !g.enabled then 0
                 else (unitRecord s.link u).missed } ∧
             (∀ v, v ≠ u → unitRecord t.link v = unitRecord s.link v) ∧
             t.link.miuMeas = (if u = .miu ∧ s.link.miu.settings.enabled = true ∧ g.enabled = false
               then ⟨none, none, none, none, none, none⟩ else s.link.miuMeas) ∧
             t.link.euMeas = (if u = .eu ∧ s.link.eu.settings.enabled = true ∧ g.enabled = false
               then ⟨none, none, none, none, none⟩ else s.link.euMeas) ∧
             t.link.buMeas = (if u = .bu ∧ s.link.bu.settings.enabled = true ∧ g.enabled = false
               then ⟨none, none, none, none, none, none⟩ else s.link.buMeas) ∧
             t.link.acuDraw = (if u = .acu ∧ s.link.acu.settings.enabled = true ∧ g.enabled = false
               then none else s.link.acuDraw) ∧
             t.link.laneA = s.link.laneA ∧ t.link.laneB = s.link.laneB ∧ t.link.frame = s.link.frame ∧
             t.run = { s.run with causes := { s.run.causes with
               miuLost := if u = .miu ∧ s.link.miu.health = .lost ∧ health ≠ .lost then false
                 else s.run.causes.miuLost
               buLost := if u = .bu ∧ s.link.bu.health = .lost ∧ health ≠ .lost then false
                 else s.run.causes.buLost } } ∧
             t.outputs = s.outputs ∧ t.stack = s.stack ∧
             ((unitRecord s.link u).health ≠ health → u ≠ .acu → Triggered s t) ∧
             (((unitRecord s.link u).health = health ∨ u = .acu) → Untriggered s t) ∧
             Unchanged { run := true, link := true } s t)) ∧
  (∀ (u : UnitId) (g : UnitSettings),
     (g.expected &&& ~~~flagMask u = 0#8 → g.mask &&& ~~~flagMask u = 0#8 → g.copyTo ≠ some u →
       settingsGiven u (byteOf (unitCode u) :: (flag g.enabled ++ [g.expected, g.mask, byteOf (retry1Code g.retry1),
         byteOf (retry2Code g.retry2)] ++ flag g.retryIfStatusSet ++ flag g.briefBusy ++
         [match g.copyTo with
           | some destination => byteOf (unitCode destination)
           | none => 0#8])) = some g) ∧
     ∀ p, settingsGiven u p = some g →
       nat8 p 1 ≤ 1 ∧ g.enabled = decide (nat8 p 1 = 1) ∧ g.expected = at8 p 2 ∧ g.mask = at8 p 3 ∧
       g.expected &&& ~~~flagMask u = 0#8 ∧ g.mask &&& ~~~flagMask u = 0#8 ∧
       retry1Code g.retry1 = nat8 p 4 ∧ retry2Code g.retry2 = nat8 p 5 ∧
       nat8 p 6 ≤ 1 ∧ g.retryIfStatusSet = decide (nat8 p 6 = 1) ∧ nat8 p 7 ≤ 1 ∧
       g.briefBusy = decide (nat8 p 7 = 1) ∧ (g.copyTo.map unitCode).getD 0 = nat8 p 8 ∧ g.copyTo ≠ some u)

/-- LANE_RESTORE: RANGE, then STATE in STANDBY and for a lane that is not FAILED; otherwise the restore is pending and the
request ACCEPTED.

An ABSENT lane stays ABSENT until the next full reset (R149), where restores and probes keep to FAILED lanes. -/
def Obligations.LanesAreRestoredAndAbsentOnesStay : Prop :=
  (∀ (tag l : Byte) (s : State), Ready 0x23#8 tag [l] s →
     (1 < l.toNat → exec (.laneRestore tag [l]) s = .next (replied 0x23#8 tag [3#8] s)) ∧
     ∀ lane, laneCode lane = l.toNat →
       ((s.run.state = .standby ∨ (laneRecordOf s.link lane).state ≠ .failed) →
         exec (.laneRestore tag [l]) s = .next (replied 0x23#8 tag [2#8] s)) ∧
       ((s.run.state ≠ .standby ∧ (laneRecordOf s.link lane).state = .failed) →
         exec (.laneRestore tag [l]) s = .next (replied 0x23#8 tag [1#8]
           { s with
             link := withLane lane { laneRecordOf s.link lane with restorePending := true } s.link }))) ∧
  (∀ (c : Instr) (s t : State) (lane : LaneId), (∀ straps levels, c ≠ .fullReset straps levels) →
     LaneLaw s → exec c s = .next t → (laneRecordOf s.link lane).state = .absent →
     (laneRecordOf t.link lane).state = .absent)

/-- FRAME_TIMER_EXPIRY: the timer is set again; a frame in progress meets an overrun; in WAITING a frame begins, with a
probe on a lane whose restore is pending, else with the transaction of the first enabled unit on the preferred lane where
usable, else, with no lane usable, every enabled unit misses its part (R154 to R157, R159, R166). A frame with nothing to
send ends at once, and in WINDDOWN with the engine at rest it is the quiet frame that ends the drive (R23). That the row changes
nothing before the expiry, and may be taken after it, are the model's choices (logs 1 and 2); LOSS_LIMIT reached means at or
above it (log 16); the sequence number rises when the order is built (log 15).

The bodies of the four units' orders, byte by byte, in an ordinary frame and in a quiet one (R158, R171, R190): a record that
is not of this drive counts as the empty record (R157), and the path is none but in CRANKING (log 30). -/
def Obligations.FrameTimerBeginsAFrame : Prop :=
  (∀ (s : State) (parked : List Byte), parked =
      (if s.solver.ofThisDrive = true ∧ s.solver.record.mode = .parkedCharge then
        1#8 :: be16 (BitVec.ofNat 16 s.items.parkedChargeSpeed) else [0#8, 0#8, 0#8]) →
    ((s.engine.state = .cranking ∧ s.engine.path = some .primary) →
      orderBody s .miu = 2#8 :: be16 (BitVec.ofNat 16 (2 * s.items.crankTorque)) ∧
      orderBody s .eu = [1#8, 0#8, 0#8, 0#8, 1#8] ++ parked) ∧
    ((s.engine.state ≠ .cranking ∨ s.engine.path = some .alternate) →
      orderBody s .miu = if s.solver.ofThisDrive then
          (match s.solver.record.mode with
            | .regen => 1#8
            | .parkedCharge => 3#8
            | .ev | .assist | .charge | .engineOnly | .limp => 0#8) ::
            be16 (BitVec.ofInt 16 s.solver.record.mgTorque)
        else [4#8, 0#8, 0#8]) ∧
    ((s.engine.state = .cranking ∧ s.engine.path = some .alternate) →
      orderBody s .eu = [1#8, 1#8, 0#8, 0#8, 0#8] ++ parked) ∧
    (s.engine.state = .warming → orderBody s .eu = [2#8, 0xFF#8] ++ be16 (BitVec.ofInt 16
        (if s.solver.ofThisDrive then min s.solver.record.engineTorque (2 * Int.ofNat s.items.warmCap) else 0)) ++
      2#8 :: parked) ∧
    ((s.engine.state = .running ∨ s.engine.state = .holding) →
      orderBody s .eu = [2#8, 0xFF#8] ++
        (if s.solver.ofThisDrive then be16 (BitVec.ofInt 16 s.solver.record.engineTorque) ++
            [match s.solver.record.clutch with
              | .opened => 0#8
              | .slip => 1#8
              | .closed => 2#8]
          else [0#8, 0#8, 0#8]) ++ parked) ∧
    ((s.engine.state = .off ∨ s.engine.state = .resting ∨ s.engine.state = .stopping ∨ s.engine.state = .barred ∨
        s.engine.state = .detached) → orderBody s .eu = [0#8, 0xFF#8, 0#8, 0#8, 0#8] ++ parked) ∧
    orderBody s .bu =
      (if (s.run.state = .active ∨ s.run.state = .limp) ∧ s.lines.svc.level = false then 1#8 else 0#8) ::
        be16 (BitVec.ofInt 16 (if s.solver.ofThisDrive then s.solver.record.batteryPower else 0)) ∧
    (∀ permits : List (Nat × Nat), s.aux.length = 10 → (permits.map (·.1)).Pairwise (· < ·) →
      (∀ x, x ∈ permits ↔ 2 ≤ x.1 ∧ x.1 ≤ 11 ∧ grantCode (auxAt s x.1).grant = 3 ∧
        ∃ terms ∈ grantTerms (auxAt s x.1).grant, terms.power = x.2) →
      orderBody s .acu = byteOf permits.length ::
        permits.flatMap fun x => byteOf x.1 :: be16 (BitVec.ofNat 16 x.2)) ∧
    quietBody .miu = [4#8, 0#8, 0#8] ∧ quietBody .eu = [0#8, 0xFF#8, 0#8, 0#8, 0#8, 0#8, 0#8, 0#8] ∧
    quietBody .bu = [0#8, 0#8, 0#8] ∧ quietBody .acu = [0#8]) ∧
  (∀ s : State, s.resetHeld = false →
    (expired s.now s.link.timer = false → exec .frameTimerExpiry s = .next s) ∧
    (expired s.now s.link.timer = true →
      (∀ f, s.link.frame = .inFrame f →
        ∃ t, exec .frameTimerExpiry s = .next t ∧ PortKept s t ∧ Untriggered s t ∧
          t.link = { s.link with
            timer := some (s.now + BitVec.ofNat 32 s.items.framePeriod), periodRead := s.items.framePeriod
            overruns := raise s.link.overruns } ∧
          Logged [⟨s.now, .frameOverrun, BitVec.ofNat 16 (unitInProgress s.link.frame),
            BitVec.ofNat 32 (raise s.link.overruns)⟩] s t ∧
          Unchanged { link := true } s t) ∧
      (s.link.frame = .waiting →
        (∀ lane left, pendingLanes s.link = lane :: left →
          exec .frameTimerExpiry s = .next { s with link := { s.link with
            timer := some (s.now + BitVec.ofNat 32 s.items.framePeriod), periodRead := s.items.framePeriod
            frame := .inFrame ⟨decide (s.run.state = .winddown) && engineAtRest s,
              .probing lane probeRecord left, [.miu, .eu, .bu, .acu]⟩ } }) ∧
        (∀ lane, pendingLanes s.link = [] → s.link.miu.settings.enabled = true →
          lane = (if usable s.link s.items.preferredLane then s.items.preferredLane
            else otherLane s.items.preferredLane) → usable s.link lane = true →
          ∃ t txn, exec .frameTimerExpiry s = .next t ∧
            t.link.frame = .inFrame ⟨decide (s.run.state = .winddown) && engineAtRest s, .transaction txn,
              [.eu, .bu, .acu]⟩ ∧
            txn.unit = .miu ∧ txn.attempt = 1 ∧ txn.lane = lane ∧ txn.phase = .sending ∧
            txn.order = laneRecord 1 1 (s.link.miu.sequence + 1)
              (if decide (s.run.state = .winddown) && engineAtRest s then quietBody .miu else orderBody s .miu) ∧
            t.link.miu = { s.link.miu with sequence := s.link.miu.sequence + 1 } ∧
            t.link.timer = some (s.now + BitVec.ofNat 32 s.items.framePeriod) ∧
            t.link.periodRead = s.items.framePeriod ∧
            t.port = s.port ∧ t.stack = s.stack ∧ Unchanged { link := true } s t) ∧
        (pendingLanes s.link = [] → usable s.link .a = false → usable s.link .b = false →
          s.run.state ≠ .winddown →
          ∃ t, exec .frameTimerExpiry s = .next t ∧ PortKept s t ∧ t.link.frame = .waiting ∧
            t.link.timer = some (s.now + BitVec.ofNat 32 s.items.framePeriod) ∧
            t.link.periodRead = s.items.framePeriod ∧
            (∀ u, (unitRecord t.link u).missed =
              if (unitRecord s.link u).settings.enabled then raise (unitRecord s.link u).missed
              else (unitRecord s.link u).missed) ∧
            (∀ u, (unitRecord t.link u).health =
              if (unitRecord s.link u).settings.enabled = true ∧
                  s.items.lossLimit ≤ raise (unitRecord s.link u).missed ∧
                  ((unitRecord s.link u).health = .joining ∨ (unitRecord s.link u).health = .present)
              then .lost else (unitRecord s.link u).health) ∧
            Unchanged { run := true, aux := true, arbiter := true, engine := true, link := true } s t) ∧
        (∀ before u rest lane, pendingLanes s.link = [] → [UnitId.miu, .eu, .bu, .acu] = before ++ u :: rest →
          (∀ v ∈ before, (unitRecord s.link v).settings.enabled = false) →
          (unitRecord s.link u).settings.enabled = true →
          lane = (if usable s.link s.items.preferredLane then s.items.preferredLane
            else otherLane s.items.preferredLane) → usable s.link lane = true →
          ∃ t txn, exec .frameTimerExpiry s = .next t ∧
            t.link.frame = .inFrame ⟨decide (s.run.state = .winddown) && engineAtRest s, .transaction txn, rest⟩ ∧
            txn.unit = u ∧ txn.attempt = 1 ∧ txn.lane = lane ∧ txn.phase = .sending ∧
            txn.order = laneRecord (unitCode u) 1 ((unitRecord s.link u).sequence + 1)
              (if decide (s.run.state = .winddown) && engineAtRest s then quietBody u else orderBody s u) ∧
            unitRecord t.link u = { unitRecord s.link u with sequence := (unitRecord s.link u).sequence + 1 } ∧
            (∀ v, v ≠ u → unitRecord t.link v = unitRecord s.link v) ∧
            t.link.timer = some (s.now + BitVec.ofNat 32 s.items.framePeriod) ∧
            t.link.periodRead = s.items.framePeriod ∧
            t.port = s.port ∧ t.stack = s.stack ∧ Unchanged { link := true } s t) ∧
        (pendingLanes s.link = [] → (∀ u, (unitRecord s.link u).settings.enabled = false) →
          s.run.state ≠ .winddown → exec .frameTimerExpiry s = .next { s with link := { s.link with
            timer := some (s.now + BitVec.ofNat 32 s.items.framePeriod), periodRead := s.items.framePeriod } }) ∧
        (pendingLanes s.link = [] → s.run.state = .winddown →
          ((usable s.link .a = false ∧ usable s.link .b = false) ∨
            ∀ u, (unitRecord s.link u).settings.enabled = false) →
          ∃ t, exec .frameTimerExpiry s = .next t ∧ PortKept s t ∧
            (∀ u, (unitRecord t.link u).missed =
              if (unitRecord s.link u).settings.enabled then raise (unitRecord s.link u).missed
              else (unitRecord s.link u).missed) ∧
            (engineAtRest s = true → t.run.state = .standby ∧ t.run.lastChange = s.now ∧
              t.link.frame = .noFrames ∧ t.link.timer = none) ∧
            (engineAtRest s = false → t.run = { s.run with causes := t.run.causes } ∧ t.link.frame = .waiting ∧
              t.link.timer = some (s.now + BitVec.ofNat 32 s.items.framePeriod)) ∧
            Unchanged frameWrites s t))))

/-- The end or the cut-off of a transmission: an agreeing order waits for its report; a differing one fails its attempt and
faults its lane, as a differing peer copy does without failing its transaction; a cut-off makes its lane FAILED; a probe
decides its lane; each change of a lane, and each probe, pushes LANE_STATE (R150, R160, R161, R168, R170). What follows is the
next attempt, the end of the transaction with the clean run counts, or the next probe, and the frame goes on (R151, R155,
R159, R166). That a row without its cause changes nothing is the model's choice (log 1), and that an attempt is counted at
its end is log 15. -/
def Obligations.TransmissionsEndOrAreCutOff : Prop :=
  ∀ (lane : LaneId) (heard : Word16) (s : State), s.resetHeld = false →
    (usable s.link lane = true ↔
      (laneRecordOf s.link lane).state = .good ∨ (laneRecordOf s.link lane).state = .suspect) ∧
    ((∀ f, s.link.frame ≠ .inFrame f) →
      exec (.linkTransmissionEnd lane heard) s = .next s ∧ exec (.transmitLimitCutoff lane) s = .next s) ∧
    (∀ quiet txn left, s.link.frame = .inFrame ⟨quiet, .transaction txn, left⟩ →
      ((txn.lane ≠ lane ∨ txn.phase = .waiting) →
        exec (.linkTransmissionEnd lane heard) s = .next s ∧ exec (.transmitLimitCutoff lane) s = .next s) ∧
      ((txn.lane = lane ∧ txn.phase = .sending) →
        (heard = checkValue txn.order →
          exec (.linkTransmissionEnd lane heard) s = .next { s with link := { s.link with
            frame := .inFrame ⟨quiet, .transaction { txn with phase := .waiting }, left⟩ } }) ∧
        (heard ≠ checkValue txn.order →
          ∃ t, exec (.linkTransmissionEnd lane heard) s = .next t ∧ PortKept s t ∧
            ((laneRecordOf s.link lane).state = .good →
              (laneRecordOf t.link lane).state = .suspect ∧ (laneRecordOf t.link lane).clean = 0) ∧
            ((laneRecordOf s.link lane).state = .suspect → (laneRecordOf t.link lane).state = .failed) ∧
            LaneChangePushed lane (faulted (laneRecordOf s.link lane)) 0 s t ∧
            (countersOf (unitRecord t.link txn.unit) lane).attempts =
              raise (countersOf (unitRecord s.link txn.unit) lane).attempts ∧
            (countersOf (unitRecord t.link txn.unit) lane).echoMismatch =
              raise (countersOf (unitRecord s.link txn.unit) lane).echoMismatch ∧
            (FrameLaw s → AttemptFollowed quiet (notClean txn) left
              (lanesWith lane (faulted (laneRecordOf s.link lane)) s) s t) ∧
            Unchanged frameWrites s t) ∧
        (∃ t, exec (.transmitLimitCutoff lane) s = .next t ∧ PortKept s t ∧
          (usable s.link lane = true → (laneRecordOf t.link lane).state = .failed) ∧
          LaneChangePushed lane (afterCut (laneRecordOf s.link lane)) 2 s t ∧
          (countersOf (unitRecord t.link txn.unit) lane).attempts =
            raise (countersOf (unitRecord s.link txn.unit) lane).attempts ∧
          (countersOf (unitRecord t.link txn.unit) lane).cutOff =
            raise (countersOf (unitRecord s.link txn.unit) lane).cutOff ∧
          (FrameLaw s → AttemptFollowed quiet (notClean txn) left
            (lanesWith lane (afterCut (laneRecordOf s.link lane)) s) s t) ∧
          Unchanged frameWrites s t)) ∧
      (∀ copy, txn.lane = lane → txn.phase = .copying copy →
        (∃ t, exec (.linkTransmissionEnd lane heard) s = .next t ∧ PortKept s t ∧
          (countersOf (unitRecord t.link txn.unit) lane).attempts =
            (countersOf (unitRecord s.link txn.unit) lane).attempts ∧
          (countersOf (unitRecord t.link txn.unit) lane).echoMismatch =
            (if heard = checkValue copy then (countersOf (unitRecord s.link txn.unit) lane).echoMismatch
              else raise (countersOf (unitRecord s.link txn.unit) lane).echoMismatch) ∧
          (heard = checkValue copy → FrameLaw s → TxnEnded quiet txn left (laneRecordOf s.link) s t) ∧
          (heard ≠ checkValue copy → LaneChangePushed lane (faulted (laneRecordOf s.link lane)) 0 s t ∧
            (FrameLaw s → TxnEnded quiet (notClean txn) left
              (lanesWith lane (faulted (laneRecordOf s.link lane)) s) s t)) ∧
          (FrameLaw s → (unitRecord t.link txn.unit).missed = (unitRecord s.link txn.unit).missed) ∧
          Unchanged frameWrites s t) ∧
        (∃ t, exec (.transmitLimitCutoff lane) s = .next t ∧ PortKept s t ∧
          (usable s.link lane = true → (laneRecordOf t.link lane).state = .failed) ∧
          LaneChangePushed lane (afterCut (laneRecordOf s.link lane)) 2 s t ∧
          (countersOf (unitRecord t.link txn.unit) lane).cutOff =
            raise (countersOf (unitRecord s.link txn.unit) lane).cutOff ∧
          (FrameLaw s → TxnEnded quiet (notClean txn) left
            (lanesWith lane (afterCut (laneRecordOf s.link lane)) s) s t) ∧
          (FrameLaw s → (unitRecord t.link txn.unit).missed = (unitRecord s.link txn.unit).missed) ∧
          Unchanged frameWrites s t))) ∧
    (∀ quiet record left units, s.link.frame = .inFrame ⟨quiet, .probing lane record left, units⟩ →
      (∃ t, exec (.linkTransmissionEnd lane heard) s = .next t ∧ PortKept s t ∧
        (laneRecordOf t.link lane).restorePending = false ∧
        (heard = checkValue record →
          (laneRecordOf t.link lane).state = .good ∧ (laneRecordOf t.link lane).clean = 0 ∧
          Pushed (laneEntry s.now lane .good (laneRecordOf s.link lane).state 4) s t) ∧
        (heard ≠ checkValue record → (laneRecordOf t.link lane).state = (laneRecordOf s.link lane).state ∧
          Pushed (laneEntry s.now lane (laneRecordOf s.link lane).state (laneRecordOf s.link lane).state 5) s t) ∧
        (∀ next more, left = next :: more →
          t.link.frame = .inFrame ⟨quiet, .probing next probeRecord more, [.miu, .eu, .bu, .acu]⟩) ∧
        (left = [] → FrameLaw s → FrameGoesOn quiet [.miu, .eu, .bu, .acu] s t) ∧ Unchanged frameWrites s t) ∧
      (∃ t, exec (.transmitLimitCutoff lane) s = .next t ∧ PortKept s t ∧
        (laneRecordOf t.link lane).restorePending = false ∧
        (laneRecordOf t.link lane).state = (laneRecordOf s.link lane).state ∧
        Pushed (laneEntry s.now lane (laneRecordOf s.link lane).state (laneRecordOf s.link lane).state 5) s t ∧
        (∀ next more, left = next :: more →
          t.link.frame = .inFrame ⟨quiet, .probing next probeRecord more, [.miu, .eu, .bu, .acu]⟩) ∧
        (left = [] → FrameLaw s → FrameGoesOn quiet [.miu, .eu, .bu, .acu] s t) ∧ Unchanged frameWrites s t))

/-- The four checks of a report (R162, R163, R190): received in full, address and type, sequence, check value, and the
unit's length or an accepted brief-busy report; and the flags it reports, the ignored bits apart.

REPORT_RECEIVED: a report that fails a check counts as refused; of a well-formed one the status-set pattern is judged with
UNIT_STATUS_SET (R164), and a lane on which an earlier attempt ended silent is faulted (R150); it fails its attempt where its
pattern is not empty and RETRY IF STATUS SET is ON; else it is taken: its unit becomes PRESENT, its missed count 0, its flags
and measurements are stored (R165), its readers act, the ACU's with the overdraw check (R71), and the peer copy is sent
(R168). Where the transaction ends, the clean run counts are judged (R151) and the frame goes on (R155, R159, R166).

That nothing happens outside a report wait or before the report is received in full is the model's choice (logs 1 and 14), as
is that a length byte above 31 ends a report with its body (log 14); that an attempt is counted at its end and a copy at its
beginning is log 15, that the pattern's entry comes before the fault is log 13; the place of a report before the triggers it
hands on is log 6. -/
def Obligations.ReportsAreRefusedOrTaken : Prop :=
  (∀ (a ty seq len : Byte) (rest : List Byte),
    (receivedInFull (a :: ty :: seq :: len :: rest) = true ↔
      (rest.length = len.toNat + 2 ∨
        (31 < len.toNat ∧ len.toNat ≤ rest.length ∧ rest.length ≤ len.toNat + 2))) ∧
    (∀ (txn : Txn) (g : UnitSettings), rest.length ≠ len.toNat + 2 →
      wellFormed txn g (a :: ty :: seq :: len :: rest) = false) ∧
    (∀ (txn : Txn) (g : UnitSettings) (own : Nat) (address type : Nat) (sequence : Byte) (sent body : List Byte)
        (hi lo : Byte),
      own = (match txn.unit with
        | .miu | .bu => 13
        | .eu => 10
        | .acu => 3) →
      txn.order = laneRecord address type sequence sent → rest = body ++ [hi, lo] → body.length = len.toNat →
      (wellFormed txn g (a :: ty :: seq :: len :: rest) = true ↔
        (a.toNat = unitCode txn.unit ∧ ty = 2#8) ∧ seq = sequence ∧
        word16 hi lo = crc16 (a :: ty :: seq :: len :: body) ∧
        (body.length = own ∨ (g.briefBusy = true ∧ body.length = 1 ∧ (at8 body 0).getLsbD 0 = true))))) ∧
  (∀ (u : UnitId) (a ty seq len flags : Byte) (rest : List Byte) (k : Nat),
    (isBrief (a :: ty :: seq :: len :: flags :: rest) = true ↔ len = 1#8 ∧ flags.getLsbD 0 = true) ∧
    (k < 8 → (reportFlags u (a :: ty :: seq :: len :: flags :: rest)).getLsbD k =
      (flags.getLsbD k && (decide (k ≤ 4) || decide (k = 5 ∧ (u = .eu ∨ u = .bu)))))) ∧
  (∀ (record : List Byte) (s : State), s.resetHeld = false →
    ((∀ quiet txn left, s.link.frame = .inFrame ⟨quiet, .transaction txn, left⟩ → txn.phase ≠ .waiting) →
      exec (.reportReceived record) s = .next s) ∧
    (receivedInFull record = false → exec (.reportReceived record) s = .next s) ∧
    ∀ quiet txn left, s.link.frame = .inFrame ⟨quiet, .transaction txn, left⟩ → txn.phase = .waiting →
      FrameLaw s → receivedInFull record = true →
      (wellFormed txn (unitRecord s.link txn.unit).settings record = false →
        ∃ t, exec (.reportReceived record) s = .next t ∧ PortKept s t ∧
          (countersOf (unitRecord t.link txn.unit) txn.lane).attempts =
            raise (countersOf (unitRecord s.link txn.unit) txn.lane).attempts ∧
          (countersOf (unitRecord t.link txn.unit) txn.lane).refused =
            raise (countersOf (unitRecord s.link txn.unit) txn.lane).refused ∧
          (unitRecord t.link txn.unit).flags = (unitRecord s.link txn.unit).flags ∧
          AttemptFollowed quiet (notClean txn) left (laneRecordOf s.link) s t ∧
          Unchanged frameWrites s t) ∧
      (∀ flags pattern, wellFormed txn (unitRecord s.link txn.unit).settings record = true →
        flags = reportFlags txn.unit record →
        pattern = ((flags ^^^ (unitRecord s.link txn.unit).settings.expected) &&&
          (unitRecord s.link txn.unit).settings.mask) →
        ∃ t, exec (.reportReceived record) s = .next t ∧ PortKept s t ∧
          (unitRecord t.link txn.unit).statusSet = pattern ∧
          (pattern ≠ (unitRecord s.link txn.unit).statusSet →
            Pushed ⟨s.now, .unitStatusSet, BitVec.ofNat 16 (unitCode txn.unit), word32 pattern flags 0#8 0#8⟩ s t) ∧
          (pattern = (unitRecord s.link txn.unit).statusSet → NonePushed .unitStatusSet s t) ∧
          (∀ l, LaneChangePushed l (afterSilence txn s l) 1 s t) ∧
          (countersOf (unitRecord t.link txn.unit) txn.lane).attempts =
            raise (countersOf (unitRecord s.link txn.unit) txn.lane).attempts ∧
          ((pattern ≠ 0#8 ∧ (unitRecord s.link txn.unit).settings.retryIfStatusSet = true) →
            (countersOf (unitRecord t.link txn.unit) txn.lane).taken =
              (countersOf (unitRecord s.link txn.unit) txn.lane).taken ∧
            (unitRecord t.link txn.unit).flags = (unitRecord s.link txn.unit).flags ∧
            (unitRecord t.link txn.unit).measuredAt = (unitRecord s.link txn.unit).measuredAt ∧
            AttemptFollowed quiet (notClean (silenceSettled txn)) left (afterSilence txn s) s t) ∧
          ((pattern = 0#8 ∨ (unitRecord s.link txn.unit).settings.retryIfStatusSet = false) →
            (unitRecord t.link txn.unit).health = .present ∧ (unitRecord t.link txn.unit).missed = 0 ∧
            (unitRecord t.link txn.unit).flags = flags ∧
            (unitRecord t.link txn.unit).takenAt = s.now ∧
            (countersOf (unitRecord t.link txn.unit) txn.lane).taken =
              raise (countersOf (unitRecord s.link txn.unit) txn.lane).taken ∧
            (isBrief record = false → (unitRecord t.link txn.unit).measuredAt = s.now ∧
              (txn.unit = .miu → t.link.miuMeas = ⟨measureUnsigned 8000 record 5, measureSigned (-2000) 2000 record 7,
                measureSigned (-2000) 2000 record 9, measureSigned (-2000) 2000 record 11,
                measureUnsigned 2550 record 13, measureSigned (-40) 1000 record 15⟩) ∧
              (txn.unit = .eu → t.link.euMeas = ⟨measureUnsigned 8000 record 5, measureSigned (-2000) 2000 record 7,
                measureSigned (-2000) 2000 record 9, measureSigned (-40) 1000 record 11,
                clutchOf (nat8 record 13)⟩) ∧
              (txn.unit = .bu → t.link.buMeas = ⟨measureUnsigned 1000 record 5, measureUnsigned 1000 record 7,
                measureSigned (-1000) 1000 record 9, measureSigned (-2000) 2000 record 11,
                measureSigned (-2000) 2000 record 13, measureSigned (-40) 1000 record 15⟩) ∧
              (txn.unit = .acu → t.link.acuDraw = measureSigned (-2000) 2000 record 5)) ∧
            (isBrief record = true →
              (unitRecord t.link txn.unit).measuredAt = (unitRecord s.link txn.unit).measuredAt ∧
              (txn.unit = .miu → t.link.miuMeas = s.link.miuMeas) ∧
              (txn.unit = .eu → t.link.euMeas = s.link.euMeas) ∧
              (txn.unit = .bu → t.link.buMeas = s.link.buMeas) ∧
              (txn.unit = .acu → t.link.acuDraw = s.link.acuDraw)) ∧
            (txn.unit = .miu → s.link.miu.health = .lost → t.run.causes.miuLost = false) ∧
            (txn.unit = .bu → s.link.bu.health = .lost → t.run.causes.buLost = false) ∧
            (txn.unit ≠ .acu → TriggerTaken s t) ∧
            (usable s.link txn.lane = true → quiet = false →
              ((txn.unit = .eu ∨ txn.unit = .bu) → Triggered s t) ∧
              (txn.unit = .miu → TriggeredAs { t with engine := s.engine } s t)) ∧
            (txn.unit = .acu → t.run.state ≠ .standby →
              (t.link.acuDraw = none → t.arbiter.overdrawTripped = s.arbiter.overdrawTripped ∧
                NonePushed .auxOverdraw s t) ∧
              ∀ draw, t.link.acuDraw = some draw →
                (draw ≤ Int.ofNat (heldSum t.aux) + 10 → t.arbiter.overdrawTripped = false ∧
                  NonePushed .auxOverdraw s t) ∧
                (Int.ofNat (heldSum t.aux) + 10 < draw → t.arbiter.overdrawTripped = true ∧
                  (s.arbiter.overdrawTripped = true → NonePushed .auxOverdraw s t) ∧
                  (s.arbiter.overdrawTripped = false → Pushed ⟨s.now, .auxOverdraw, 4#16,
                    BitVec.ofInt 16 draw ++ BitVec.ofNat 16 (heldSum t.aux + 10)⟩ s t))) ∧
            ((unitRecord s.link txn.unit).settings.copyTo = none →
              TxnEnded quiet (silenceSettled txn) left (afterSilence txn s) s t) ∧
            (∀ destination, (unitRecord s.link txn.unit).settings.copyTo = some destination →
              (countersOf (unitRecord t.link txn.unit) txn.lane).copies =
                raise (countersOf (unitRecord s.link txn.unit) txn.lane).copies ∧
              (∀ l, laneRecordOf t.link l = afterSilence txn s l) ∧
              ∀ address type sequence sent, txn.order = laneRecord address type sequence sent →
                t.link.frame = .inFrame ⟨quiet, .transaction { silenceSettled txn with
                  phase := .copying (laneRecord (unitCode destination) 3 sequence (byteOf address :: sent)) },
                  left⟩)) ∧
          Unchanged reportWrites s t))

/-- REPORT_WAIT_EXPIRY makes the attempt silent; the second attempt goes on the lane that RETRY1 names, the third, unless
RETRY2 is OFF, on the lane that RETRY2 names, or on the other lane where the named one is not usable, with the order as it
was; where no attempt remains the unit's part ends missed and the transaction ends, with the clean run counts judged and the
frame going on (R151, R155, R159, R162, R166; LOSS_LIMIT reached, log 16). A silent attempt alone faults no lane (R150). That
the row changes nothing outside a report wait is the model's choice (log 1), and that an attempt is counted at its end is
log 15. -/
def Obligations.ReportWaitEndsSilent : Prop :=
  ∀ s : State, s.resetHeld = false →
    ((∀ quiet txn left, s.link.frame = .inFrame ⟨quiet, .transaction txn, left⟩ → txn.phase ≠ .waiting) →
      exec .reportWaitExpiry s = .next s) ∧
    ∀ quiet txn left, s.link.frame = .inFrame ⟨quiet, .transaction txn, left⟩ → txn.phase = .waiting →
      FrameLaw s →
      ∃ t, exec .reportWaitExpiry s = .next t ∧ PortKept s t ∧
        (countersOf (unitRecord t.link txn.unit) txn.lane).attempts =
          raise (countersOf (unitRecord s.link txn.unit) txn.lane).attempts ∧
        (countersOf (unitRecord t.link txn.unit) txn.lane).silent =
          raise (countersOf (unitRecord s.link txn.unit) txn.lane).silent ∧
        (∀ named lane, (txn.attempt = 1 ∨ (txn.attempt = 2 ∧ (unitRecord s.link txn.unit).settings.retry2 ≠ .off)) →
          named = (if (txn.attempt = 1 ∧ (unitRecord s.link txn.unit).settings.retry1 = .same) ∨
              (txn.attempt = 2 ∧ (unitRecord s.link txn.unit).settings.retry2 = .same) then txn.lane
            else otherLane txn.lane) →
          lane = (if usable s.link named then named else otherLane named) → usable s.link lane = true →
          t.link.frame = .inFrame ⟨quiet, .transaction (attemptOn (wentSilent txn) lane), left⟩ ∧
          t.stack = s.stack) ∧
        ((3 ≤ txn.attempt ∨ (txn.attempt = 2 ∧ (unitRecord s.link txn.unit).settings.retry2 = .off) ∨
            (usable s.link .a = false ∧ usable s.link .b = false)) →
          PartMissed txn.unit s t ∧ TxnEnded quiet (wentSilent txn) left (laneRecordOf s.link) s t) ∧
        AttemptFollowed quiet (wentSilent txn) left (laneRecordOf s.link) s t ∧
        Unchanged frameWrites s t

/-- A unit's part that ends missed raises its missed count, and at LOSS_LIMIT a JOINING or PRESENT unit is declared LOST:
its measurements are INVALID, UNIT_LOST is pushed, the MIU and the BU begin their limp cause, which takes ACTIVE to LIMP with
RUN_STATE (R19, R24), the EU detaches the engine
(R141), and a trigger is taken for all but the ACU (R166; reached means at or above, log 16). A report taken of a LOST unit
restores it with UNIT_RESTORED (R167). The completion of a quiet frame takes WINDDOWN to STANDBY while the engine is OFF,
BARRED or DETACHED (R23, R43, R51, R71, R149, R154). That the blocks act before a run-state change's own trigger, whose
snapshot has what they leave, is the model's reading, and the order of two CANCELLED entries its choice (log 6). -/
def Obligations.UnitsAreLostAndRestoredAndQuietFramesEnd : Prop :=
  (∀ (u : UnitId) (s t : State), t = missPart u s →
    PortKept s t ∧ (unitRecord t.link u).missed = raise (unitRecord s.link u).missed ∧
    ((s.items.lossLimit ≤ raise (unitRecord s.link u).missed ∧
        ((unitRecord s.link u).health = .joining ∨ (unitRecord s.link u).health = .present)) →
      (unitRecord t.link u).health = .lost ∧
      Pushed ⟨s.now, .unitLost, BitVec.ofNat 16 (unitCode u), (unitRecord s.link u).takenAt⟩ s t ∧
      (u = .miu → t.link.miuMeas = ⟨none, none, none, none, none, none⟩ ∧
        t.run.causes = { s.run.causes with miuLost := true }) ∧
      (u = .bu → t.link.buMeas = ⟨none, none, none, none, none, none⟩ ∧
        t.run.causes = { s.run.causes with buLost := true }) ∧
      ((u = .miu ∨ u = .bu) → t.engine = s.engine ∧
        (s.run.state = .active → t.run = ⟨.limp, t.run.causes, s.now⟩ ∧ t.outputs.limpOut = true ∧
          Pushed (runEntry s.now 2#16 t.run.causes) s t ∧
          t.aux = (arbiterLimp s).aux ∧ t.arbiter = (arbiterLimp s).arbiter) ∧
        (s.run.state ≠ .active → t.run.state = s.run.state ∧ t.aux = s.aux ∧ t.arbiter = s.arbiter)) ∧
      (u = .eu → t.link.euMeas = ⟨none, none, none, none, none⟩ ∧ t.run = s.run ∧
        t.engine = if s.engine.state = .barred ∨ s.engine.state = .detached then s.engine
          else { s.engine with state := .detached, timer := none, minRun := none, faultNoted := false }) ∧
      (u = .acu → t.link.acuDraw = none ∧ Untriggered s t ∧ Unchanged { link := true } s t) ∧
      (u ≠ .acu → Triggered s t) ∧
      Unchanged { run := true, aux := true, arbiter := true, engine := true, link := true } s t) ∧
    (¬ (s.items.lossLimit ≤ raise (unitRecord s.link u).missed ∧
        ((unitRecord s.link u).health = .joining ∨ (unitRecord s.link u).health = .present)) →
      (unitRecord t.link u).health = (unitRecord s.link u).health ∧ t.stack = s.stack ∧ Untriggered s t ∧
      Unchanged { link := true } s t)) ∧
  (∀ (record : List Byte) (s : State) (quiet : Bool) (txn : Txn) (left : List UnitId), s.resetHeld = false →
    s.link.frame = .inFrame ⟨quiet, .transaction txn, left⟩ → txn.phase = .waiting → FrameLaw s →
    (unitRecord s.link txn.unit).health = .lost → receivedInFull record = true →
    wellFormed txn (unitRecord s.link txn.unit).settings record = true →
    (statusPattern (unitRecord s.link txn.unit).settings (reportFlags txn.unit record) = 0#8 ∨
      (unitRecord s.link txn.unit).settings.retryIfStatusSet = false) →
    ∃ t, exec (.reportReceived record) s = .next t ∧ (unitRecord t.link txn.unit).health = .present ∧
      (unitRecord t.link txn.unit).missed = 0 ∧
      Pushed ⟨s.now, .unitRestored, BitVec.ofNat 16 (unitCode txn.unit),
        BitVec.ofNat 32 (unitRecord s.link txn.unit).missed⟩ s t ∧
      (txn.unit = .miu → t.run.causes.miuLost = false) ∧ (txn.unit = .bu → t.run.causes.buLost = false) ∧
      (txn.unit ≠ .acu → TriggerTaken s t)) ∧
  (∀ s t : State, t = quietFrameDone s →
    (¬ (s.run.state = .winddown ∧
        (s.engine.state = .off ∨ s.engine.state = .barred ∨ s.engine.state = .detached)) → t = s) ∧
    ((s.run.state = .winddown ∧
        (s.engine.state = .off ∨ s.engine.state = .barred ∨ s.engine.state = .detached)) →
      t.run = ⟨.standby, { s.run.causes with demandLost := false }, s.now⟩ ∧ t.outputs.limpOut = false ∧
      t.demand = { s.demand with
        traction := ⟨none, s.demand.traction.arrival, false, none⟩
        brake := ⟨some 0, s.demand.brake.arrival, false, none⟩, lost := false } ∧
      t.arbiter = { s.arbiter with batteryBudget := 0, generationBudget := 0, overdrawTripped := false } ∧
      t.link = { s.link with
        frame := .noFrames, timer := none
        laneA := { s.link.laneA with restorePending := false }
        laneB := { s.link.laneB with restorePending := false } } ∧
      Logged (runEntry s.now 0#16 s.run.causes ::
        ((if s.link.laneA.restorePending then [⟨s.now, .laneState, 0#16,
            detail4 (laneStateCode s.link.laneA.state) (laneStateCode s.link.laneA.state) 6 0⟩] else []) ++
          (if s.link.laneB.restorePending then [⟨s.now, .laneState, 1#16,
            detail4 (laneStateCode s.link.laneB.state) (laneStateCode s.link.laneB.state) 6 0⟩] else []))) s t ∧
      PortKept s t ∧ Triggered s t ∧
      Unchanged { run := true, demand := true, arbiter := true, link := true } s t)) ∧
  (∀ (s : State) (txn : Txn) (left : List UnitId), s.resetHeld = false →
    s.link.frame = .inFrame ⟨true, .transaction txn, left⟩ → txn.phase = .waiting → 3 ≤ txn.attempt →
    (∀ u ∈ left, (unitRecord s.link u).settings.enabled = false) → s.run.state = .winddown →
    ∃ t, exec .reportWaitExpiry s = .next t ∧
      ((t.engine.state = .off ∨ t.engine.state = .barred ∨ t.engine.state = .detached) →
        t.run.state = .standby ∧ t.run.lastChange = s.now ∧ t.link.frame = .noFrames) ∧
      (¬ (t.engine.state = .off ∨ t.engine.state = .barred ∨ t.engine.state = .detached) →
        t.run = { s.run with causes := t.run.causes } ∧ t.link.frame = .waiting))

/-! ## The port, the stack and the masks -/

/-- EVENTS_READ removes and returns the oldest entries, up to the count, with the number left and OVERRUN as found, clears
OVERRUN and judges ALERT; a count outside 1 to 8 is RANGE (R185). The one-byte number left is the model's (log 9).

NOTICE_MASK_SET (R181) and ALERT_MASK_SET (R186) take a set of the 25 kinds and return it, ALERT being judged at once; a
set that names anything else is RANGE. -/
def Obligations.EventsAreReadAndMasksSet : Prop :=
  (∀ (tag n : Byte) (s : State), Ready 0x24#8 tag [n] s →
     ((n.toNat < 1 ∨ 8 < n.toNat) → exec (.eventsRead tag [n]) s = .next (replied 0x24#8 tag [3#8] s)) ∧
     ((1 ≤ n.toNat ∧ n.toNat ≤ 8) → exec (.eventsRead tag [n]) s = .next (replied 0x24#8 tag
       (0#8 :: (byteOf (min n.toNat s.stack.entries.length) ::
         ((s.stack.entries.take n.toNat).flatMap (fun e =>
             be32 e.tag ++ [byteOf (eventCode e.kind)] ++ be16 e.subject ++ be32 e.detail) ++
           [byteOf (s.stack.entries.length - n.toNat)] ++ flag s.stack.overrun)))
       { s with
         stack := { s.stack with entries := s.stack.entries.drop n.toNat, overrun := false }
         outputs := { s.outputs with
           alert := (s.stack.entries.drop n.toNat).any fun e => inMask s.stack.alertMask e.kind } }))) ∧
  (∀ (tag b3 b2 b1 b0 : Byte) (s : State),
     (Ready 0x25#8 tag [b3, b2, b1, b0] s →
       (2 ≤ b3.toNat → exec (.noticeMaskSet tag [b3, b2, b1, b0]) s = .next (replied 0x25#8 tag [3#8] s)) ∧
       (b3.toNat < 2 → exec (.noticeMaskSet tag [b3, b2, b1, b0]) s =
         .next (replied 0x25#8 tag [0#8, b3, b2, b1, b0]
           { s with port := { s.port with noticeMask := word32 b3 b2 b1 b0 } }))) ∧
     (Ready 0x26#8 tag [b3, b2, b1, b0] s →
       (2 ≤ b3.toNat → exec (.alertMaskSet tag [b3, b2, b1, b0]) s = .next (replied 0x26#8 tag [3#8] s)) ∧
       (b3.toNat < 2 → exec (.alertMaskSet tag [b3, b2, b1, b0]) s =
         .next (replied 0x26#8 tag [0#8, b3, b2, b1, b0]
           { s with
             stack := { s.stack with alertMask := word32 b3 b2 b1 b0 }
             outputs := { s.outputs with
               alert := s.stack.entries.any fun e => inMask (word32 b3 b2 b1 b0) e.kind } }))))

/-- HOST_BYTE_TAKEN by the receiver's state: the sync byte begins a frame, the header and the body are stored, a length
above 200 fails the frame with FRAME into DISCARD, and DISCARD takes nothing.

FRAME_GAP fails a frame in HEADER or BODY; RECEIVER_HUNT_RESUME leaves DISCARD; HOST_LINE_BREAK empties the line and
the queues and leaves the rest; TRANSMISSION_START sends the oldest reply, else the notice.

A refusal that joins the replies finds a notice that met a free line begun (R179; lineTakes, log 5). That FRAME_GAP and
RECEIVER_HUNT_RESUME change nothing in another state of the receiver is log 1; that TRANSMISSION_START also ends the frame
before it is log 5; that the last CRC byte completes the frame is log 21. -/
def Obligations.HostBytesAndLineEvents : Prop :=
  (∀ (b : Byte) (s : State), s.resetHeld = false →
     (s.port.receiver = .hunt →
       (b ≠ 0xC3#8 → exec (.hostByteTaken b) s = .next s) ∧
       (b = 0xC3#8 → exec (.hostByteTaken b) s =
         .next { s with port := { s.port with receiver := .header, partialFrame := [b] } })) ∧
     (s.port.receiver = .discard → exec (.hostByteTaken b) s = .next s) ∧
     (∀ sync, s.port.receiver = .header → s.port.partialFrame = [sync] →
       (b.toNat ≤ 200 → exec (.hostByteTaken b) s =
         .next { s with port := { s.port with receiver := .header, partialFrame := [sync, b] } }) ∧
       (200 < b.toNat → exec (.hostByteTaken b) s = .next { s with port := { lineTakes s.port with
         receiver := .discard, partialFrame := []
         replies := if s.port.replies.length < 4 then s.port.replies ++ [⟨0x80#8, 0#8, [11#8]⟩]
           else s.port.replies } })) ∧
     (∀ sync len, s.port.receiver = .header → s.port.partialFrame = [sync, len] →
       exec (.hostByteTaken b) s =
         .next { s with port := { s.port with receiver := .header, partialFrame := [sync, len, b] } }) ∧
     (∀ sync len kind, s.port.receiver = .header → s.port.partialFrame = [sync, len, kind] →
       exec (.hostByteTaken b) s =
         .next { s with port := { s.port with receiver := .body, partialFrame := [sync, len, kind, b] } }) ∧
     (∀ sync len kind tag rest, s.port.receiver = .body → s.port.partialFrame = sync :: len :: kind :: tag :: rest →
       (rest.length + 1 < len.toNat + 2 → exec (.hostByteTaken b) s =
         .next { s with port := { s.port with partialFrame := s.port.partialFrame ++ [b] } }) ∧
       (rest.length + 1 = len.toNat + 2 → exec (.hostByteTaken b) s = exec (.hostFrameComplete b) s))) ∧
  (∀ s : State, s.resetHeld = false →
     ((s.port.receiver = .hunt ∨ s.port.receiver = .discard) → exec .frameGap s = .next s) ∧
     ((s.port.receiver = .header ∨ s.port.receiver = .body) → exec .frameGap s =
       .next { s with port := { lineTakes s.port with
         receiver := .hunt, partialFrame := []
         replies := if s.port.replies.length < 4 then
             s.port.replies ++ [⟨if s.port.partialFrame.length < 3 then 0x80#8
                 else replyKind (at8 s.port.partialFrame 2),
               if s.port.partialFrame.length < 4 then 0#8 else at8 s.port.partialFrame 3, [11#8]⟩]
           else s.port.replies } }) ∧
     (s.port.receiver ≠ .discard → exec .receiverHuntResume s = .next s) ∧
     (s.port.receiver = .discard → exec .receiverHuntResume s =
       .next { s with port := { s.port with receiver := .hunt, partialFrame := [] } }) ∧
     exec .hostLineBreak s = .next { s with port := { s.port with
       receiver := .discard, partialFrame := [], received := [], replies := [], notice := none
       transmitting := none } } ∧
     (∀ f more, s.port.replies = f :: more → exec .transmissionStart s =
       .next { s with port := { s.port with replies := more, transmitting := some f } }) ∧
     (∀ e, s.port.replies = [] → s.port.notice = some e → exec .transmissionStart s =
       .next { s with port := { s.port with
         notice := none, transmitting := some ⟨0xFF#8, 0#8, be32 e.tag ++ [byteOf (eventCode e.kind)] ++ be16 e.subject ++
           be32 e.detail⟩ } }) ∧
     (s.port.replies = [] → s.port.notice = none → exec .transmissionStart s =
       .next { s with port := { s.port with transmitting := none } }))

/-- HOST_FRAME_COMPLETE: the last byte of a frame as it is laid out joins the request to the receive queue, or is answered
BUSY over 4 waiting requests; a CRC that does not match fails the frame with FRAME (R175, R176). That the row changes nothing
outside BODY and before the last byte is the model's choice (log 1). -/
def Obligations.HostFramesAreJudgedWhenComplete : Prop :=
  ∀ (b : Byte) (s : State), s.resetHeld = false →
    (s.port.receiver ≠ .body → exec (.hostFrameComplete b) s = .next s) ∧
    (∀ sync len more, s.port.partialFrame = sync :: len :: more → more.length + 3 ≠ len.toNat + 6 →
      exec (.hostFrameComplete b) s = .next s) ∧
    (∀ f : Frame, s.port.receiver = .body → f.payload.length ≤ 200 →
      s.port.partialFrame ++ [b] = f.wireBytes →
      (s.port.received.length < 4 → exec (.hostFrameComplete b) s = .next { s with port := { s.port with
        receiver := .hunt, partialFrame := [], received := s.port.received ++ [f] } }) ∧
      (4 ≤ s.port.received.length → exec (.hostFrameComplete b) s = .next { s with port := { lineTakes s.port with
        receiver := .hunt, partialFrame := []
        replies := if s.port.replies.length < 4 then s.port.replies ++ [⟨replyKind f.kind, f.tag, [10#8]⟩]
          else s.port.replies } })) ∧
    (∀ (f : Frame) (hi lo : Byte), s.port.receiver = .body → f.payload.length ≤ 200 →
      s.port.partialFrame ++ [b] =
        (0xC3#8 :: byteOf f.payload.length :: f.kind :: f.tag :: f.payload) ++ [hi, lo] →
      crc16 (byteOf f.payload.length :: f.kind :: f.tag :: f.payload) ≠ word16 hi lo →
      exec (.hostFrameComplete b) s = .next { s with port := { lineTakes s.port with
        receiver := .hunt, partialFrame := []
        replies := if s.port.replies.length < 4 then s.port.replies ++ [⟨replyKind f.kind, f.tag, [11#8]⟩]
          else s.port.replies } })

/-! ## The pins -/

/-- INPUT_RAW_CHANGE records a new settling level and its moment; a level that is the settling one already changes
nothing.

DEBOUNCE_EXPIRY: before 5 ms or with the levels equal nothing happens; else the debounced level becomes the settling
level, LINE_EDGE is pushed where selected, and the readers act: IGN's fall ends a drive, SVC joins or leaves the causes and
its rise takes ACTIVE to LIMP with RUN_STATE (R24) and stops the engine with ENGINE_STATE (R138), PLUG is a trigger, AUX has no reader. That the rows change nothing without their cause, and the
moment of the expiry, are the model's choices (logs 1 and 2); the readers act in the order of log 6, and the place of an
offer among the offers is log 10. -/
def Obligations.RawChangesSettleAndDebouncedOnesReachTheirReaders : Prop :=
  (∀ (line : Line) (level : Bool) (s : State), s.resetHeld = false →
     (level = (inputOf s.lines line).settling → exec (.inputRawChange line level) s = .next s) ∧
     (level ≠ (inputOf s.lines line).settling → exec (.inputRawChange line level) s =
       .next (setInput line { inputOf s.lines line with settling := level, settledAt := s.now } s))) ∧
  (∀ s : State, s.resetHeld = false →
     (∀ line, ((inputOf s.lines line).settling = (inputOf s.lines line).level ∨
         (s.now - (inputOf s.lines line).settledAt).toNat < 5) → exec (.debounceExpiry line) s = .next s) ∧
     (∀ line, (inputOf s.lines line).settling ≠ (inputOf s.lines line).level →
         5 ≤ (s.now - (inputOf s.lines line).settledAt).toNat →
       ∃ t, exec (.debounceExpiry line) s = .next t ∧ PortKept s t ∧ t.lines = (debounced line s).lines ∧
         ((line = .aux ∨ (line = .ign ∧ (s.lines.ign.settling = true ∨ driving s = false))) →
           Untriggered s t ∧ Logged (edgeEntries line (inputOf s.lines line).settling s) s t ∧
           Unchanged {} (debounced line s) t) ∧
         ((line = .ign ∧ s.lines.ign.settling = false ∧ driving s = true) →
           WoundDown (edgeEntries .ign false s) (debounced line s) t) ∧
         (line = .plug → Triggered s t ∧ Logged (edgeEntries .plug s.lines.plug.settling s) s t ∧
           Unchanged {} (debounced line s) t) ∧
         ((line = .svc ∧ s.lines.svc.settling = true) →
           t.run = (if s.run.state = .active then ⟨.limp, { s.run.causes with service := true }, s.now⟩
             else { s.run with causes := { s.run.causes with service := true } }) ∧
           t.engine = stopped s.now s.engine ∧
           TriggeredAs { t with engine := if s.run.state = .active then s.engine else t.engine } s t ∧
           t.aux = (if s.run.state = .active then (arbiterLimp s).aux else s.aux) ∧
           t.arbiter = (if s.run.state = .active then (arbiterLimp s).arbiter else s.arbiter) ∧
           (∀ e ∈ edgeEntries .svc true s, Pushed e s t) ∧
           (∀ e ∈ stopEntries s.now .service s.engine, Pushed e s t) ∧
           (s.run.state = .active → t.outputs.limpOut = true ∧ Pushed (runEntry s.now 2#16 t.run.causes) s t) ∧
           (s.run.state ≠ .active → t.outputs.limpOut = s.outputs.limpOut ∧
             Logged (edgeEntries .svc true s ++ stopEntries s.now .service s.engine) s t) ∧
           (s.run.state = .active → s.arbiter.queue = [] → (∀ c ∈ s.aux, isGranted c = false) →
             Logged (edgeEntries .svc true s ++ runEntry s.now 2#16 t.run.causes ::
               stopEntries s.now .service s.engine) s t) ∧
           Unchanged { run := true, aux := true, arbiter := true, engine := true } (debounced line s) t) ∧
         ((line = .svc ∧ s.lines.svc.settling = false) →
           t.run = { s.run with causes := { s.run.causes with service := false } } ∧
           t.outputs.limpOut = s.outputs.limpOut ∧ Triggered s t ∧
           Logged (edgeEntries .svc false s) s t ∧ Unchanged { run := true } (debounced line s) t)))

/-! ## Invariants of every step -/

/-- Every step keeps the laws of the Event Stack with ALERT, and of the port (R173, R178, R183, R186). That no request is in
execution between two steps is the model's choice (log 25). -/
def Obligations.StepsKeepTheStackAndPortLaws : Prop :=
  ∀ s t : State, step s = .next t → (StackLaw s → StackLaw t) ∧ (PortLaw s → PortLaw t)

/-- Every step keeps LIMP_OUT with LIMP, and each limp cause with its condition (R18, R19, R187). -/
def Obligations.StepsKeepLimpOutAndTheCauses : Prop :=
  ∀ s t : State, step s = .next t → (LimpOutLaw s → LimpOutLaw t) ∧ (CauseLaw s → CauseLaw t)

/-- Every step keeps the granted sums within the budgets, and the laws of the Grant Queue (R34, R50, R51, R69). The queue
keeps the order of acceptance: of the asks of s those that stay keep their order, and at most one ask joins, at the tail, with
this moment as its arrival time tag (R50). -/
def Obligations.StepsKeepTheGrantLaw : Prop :=
  (∀ s t : State, GrantLaw s → step s = .next t → GrantLaw t) ∧
  ∀ s t : State, step s = .next t →
    ∃ kept joined, t.arbiter.queue = kept ++ joined ∧ List.Sublist kept s.arbiter.queue ∧ joined.length ≤ 1 ∧
      ∀ ask ∈ joined, ask.arrival = s.now

/-- Every step keeps the engine out of every record of a ZERO_EMISSION zone, and the table as R103 has it. -/
def Obligations.StepsKeepTheZeroEmissionLaw : Prop :=
  ∀ s t : State, ZeroEmissionLaw s → step s = .next t → ZeroEmissionLaw t

/-- Every step keeps the lists in order and within their capacities, and the position inside the head (R74, R75, R80). -/
def Obligations.StepsKeepTheHorizonLaw : Prop :=
  ∀ s t : State, HorizonLaw s → step s = .next t → HorizonLaw t

/-- Every step keeps the state timer with the states that own one, and the number of attempts (R126, R133). -/
def Obligations.StepsKeepTheEngineLaw : Prop :=
  ∀ s t : State, EngineLaw s → step s = .next t → EngineLaw t

/-- Every step keeps frames out of STANDBY, quiet frames to WINDDOWN, and the units in their order (R154, R155). -/
def Obligations.StepsKeepTheFrameLaw : Prop :=
  ∀ s t : State, FrameLaw s → step s = .next t → FrameLaw t

/-- Every step keeps pending restores, and the probes of a frame, to FAILED lanes (R149, R155, R170). -/
def Obligations.StepsKeepTheLaneLaw : Prop :=
  ∀ s t : State, LaneLaw s → step s = .next t → LaneLaw t

/-- The engine never starts or runs but in ACTIVE or LIMP, in an engine zone, with SVC not asserted (R22, R131, R138). -/
def Obligations.TheEngineRunsOnlyInEngineZones : Prop :=
  ∀ s t : State, EngineZoneLaw s → step s = .next t → EngineZoneLaw t
end

