-- ==== Sys2Proof/Laws/State.lean ====
section
/-! SUPPORT. One lemma for each field and each plain update of State, true by rfl, so that no proof unfolds a record
update; and what a push, a trigger and a reply leave as it was. -/

namespace Sys2Proof.Machine

/-! ### judgeAlert -/

@[simp] theorem judgeAlert_pending (s : State) : (judgeAlert s).pending = s.pending := rfl
@[simp] theorem judgeAlert_now (s : State) : (judgeAlert s).now = s.now := rfl
@[simp] theorem judgeAlert_resetHeld (s : State) : (judgeAlert s).resetHeld = s.resetHeld := rfl
@[simp] theorem judgeAlert_port (s : State) : (judgeAlert s).port = s.port := rfl
@[simp] theorem judgeAlert_stack (s : State) : (judgeAlert s).stack = s.stack := rfl
@[simp] theorem judgeAlert_run (s : State) : (judgeAlert s).run = s.run := rfl
@[simp] theorem judgeAlert_lines (s : State) : (judgeAlert s).lines = s.lines := rfl
@[simp] theorem judgeAlert_items (s : State) : (judgeAlert s).items = s.items := rfl
@[simp] theorem judgeAlert_demand (s : State) : (judgeAlert s).demand = s.demand := rfl
@[simp] theorem judgeAlert_aux (s : State) : (judgeAlert s).aux = s.aux := rfl
@[simp] theorem judgeAlert_arbiter (s : State) : (judgeAlert s).arbiter = s.arbiter := rfl
@[simp] theorem judgeAlert_horizon (s : State) : (judgeAlert s).horizon = s.horizon := rfl
@[simp] theorem judgeAlert_solver (s : State) : (judgeAlert s).solver = s.solver := rfl
@[simp] theorem judgeAlert_engine (s : State) : (judgeAlert s).engine = s.engine := rfl
@[simp] theorem judgeAlert_link (s : State) : (judgeAlert s).link = s.link := rfl

/-! ### setAux -/

@[simp] theorem setAux_pending (channel : Nat) (c : AuxChannel) (s : State) : (setAux channel c s).pending = s.pending := rfl
@[simp] theorem setAux_now (channel : Nat) (c : AuxChannel) (s : State) : (setAux channel c s).now = s.now := rfl
@[simp] theorem setAux_resetHeld (channel : Nat) (c : AuxChannel) (s : State) : (setAux channel c s).resetHeld = s.resetHeld := rfl
@[simp] theorem setAux_port (channel : Nat) (c : AuxChannel) (s : State) : (setAux channel c s).port = s.port := rfl
@[simp] theorem setAux_stack (channel : Nat) (c : AuxChannel) (s : State) : (setAux channel c s).stack = s.stack := rfl
@[simp] theorem setAux_outputs (channel : Nat) (c : AuxChannel) (s : State) : (setAux channel c s).outputs = s.outputs := rfl
@[simp] theorem setAux_run (channel : Nat) (c : AuxChannel) (s : State) : (setAux channel c s).run = s.run := rfl
@[simp] theorem setAux_lines (channel : Nat) (c : AuxChannel) (s : State) : (setAux channel c s).lines = s.lines := rfl
@[simp] theorem setAux_items (channel : Nat) (c : AuxChannel) (s : State) : (setAux channel c s).items = s.items := rfl
@[simp] theorem setAux_demand (channel : Nat) (c : AuxChannel) (s : State) : (setAux channel c s).demand = s.demand := rfl
@[simp] theorem setAux_arbiter (channel : Nat) (c : AuxChannel) (s : State) : (setAux channel c s).arbiter = s.arbiter := rfl
@[simp] theorem setAux_horizon (channel : Nat) (c : AuxChannel) (s : State) : (setAux channel c s).horizon = s.horizon := rfl
@[simp] theorem setAux_solver (channel : Nat) (c : AuxChannel) (s : State) : (setAux channel c s).solver = s.solver := rfl
@[simp] theorem setAux_engine (channel : Nat) (c : AuxChannel) (s : State) : (setAux channel c s).engine = s.engine := rfl
@[simp] theorem setAux_link (channel : Nat) (c : AuxChannel) (s : State) : (setAux channel c s).link = s.link := rfl

/-! ### setHorizon -/

@[simp] theorem setHorizon_pending (h : Horizon) (s : State) : (setHorizon h s).pending = s.pending := rfl
@[simp] theorem setHorizon_now (h : Horizon) (s : State) : (setHorizon h s).now = s.now := rfl
@[simp] theorem setHorizon_resetHeld (h : Horizon) (s : State) : (setHorizon h s).resetHeld = s.resetHeld := rfl
@[simp] theorem setHorizon_port (h : Horizon) (s : State) : (setHorizon h s).port = s.port := rfl
@[simp] theorem setHorizon_stack (h : Horizon) (s : State) : (setHorizon h s).stack = s.stack := rfl
@[simp] theorem setHorizon_outputs (h : Horizon) (s : State) : (setHorizon h s).outputs = s.outputs := rfl
@[simp] theorem setHorizon_run (h : Horizon) (s : State) : (setHorizon h s).run = s.run := rfl
@[simp] theorem setHorizon_lines (h : Horizon) (s : State) : (setHorizon h s).lines = s.lines := rfl
@[simp] theorem setHorizon_items (h : Horizon) (s : State) : (setHorizon h s).items = s.items := rfl
@[simp] theorem setHorizon_demand (h : Horizon) (s : State) : (setHorizon h s).demand = s.demand := rfl
@[simp] theorem setHorizon_aux (h : Horizon) (s : State) : (setHorizon h s).aux = s.aux := rfl
@[simp] theorem setHorizon_arbiter (h : Horizon) (s : State) : (setHorizon h s).arbiter = s.arbiter := rfl
@[simp] theorem setHorizon_solver (h : Horizon) (s : State) : (setHorizon h s).solver = s.solver := rfl
@[simp] theorem setHorizon_engine (h : Horizon) (s : State) : (setHorizon h s).engine = s.engine := rfl
@[simp] theorem setHorizon_link (h : Horizon) (s : State) : (setHorizon h s).link = s.link := rfl

/-! ### setEngineTimer -/

@[simp] theorem setEngineTimer_pending (timer : Option TimeTag) (s : State) : (setEngineTimer timer s).pending = s.pending := rfl
@[simp] theorem setEngineTimer_now (timer : Option TimeTag) (s : State) : (setEngineTimer timer s).now = s.now := rfl
@[simp] theorem setEngineTimer_resetHeld (timer : Option TimeTag) (s : State) : (setEngineTimer timer s).resetHeld = s.resetHeld := rfl
@[simp] theorem setEngineTimer_port (timer : Option TimeTag) (s : State) : (setEngineTimer timer s).port = s.port := rfl
@[simp] theorem setEngineTimer_stack (timer : Option TimeTag) (s : State) : (setEngineTimer timer s).stack = s.stack := rfl
@[simp] theorem setEngineTimer_outputs (timer : Option TimeTag) (s : State) : (setEngineTimer timer s).outputs = s.outputs := rfl
@[simp] theorem setEngineTimer_run (timer : Option TimeTag) (s : State) : (setEngineTimer timer s).run = s.run := rfl
@[simp] theorem setEngineTimer_lines (timer : Option TimeTag) (s : State) : (setEngineTimer timer s).lines = s.lines := rfl
@[simp] theorem setEngineTimer_items (timer : Option TimeTag) (s : State) : (setEngineTimer timer s).items = s.items := rfl
@[simp] theorem setEngineTimer_demand (timer : Option TimeTag) (s : State) : (setEngineTimer timer s).demand = s.demand := rfl
@[simp] theorem setEngineTimer_aux (timer : Option TimeTag) (s : State) : (setEngineTimer timer s).aux = s.aux := rfl
@[simp] theorem setEngineTimer_arbiter (timer : Option TimeTag) (s : State) : (setEngineTimer timer s).arbiter = s.arbiter := rfl
@[simp] theorem setEngineTimer_horizon (timer : Option TimeTag) (s : State) : (setEngineTimer timer s).horizon = s.horizon := rfl
@[simp] theorem setEngineTimer_solver (timer : Option TimeTag) (s : State) : (setEngineTimer timer s).solver = s.solver := rfl
@[simp] theorem setEngineTimer_link (timer : Option TimeTag) (s : State) : (setEngineTimer timer s).link = s.link := rfl

/-! ### markCause -/

@[simp] theorem markCause_pending (cause : LimpCause) (present : Bool) (s : State) : (markCause cause present s).pending = s.pending := rfl
@[simp] theorem markCause_now (cause : LimpCause) (present : Bool) (s : State) : (markCause cause present s).now = s.now := rfl
@[simp] theorem markCause_resetHeld (cause : LimpCause) (present : Bool) (s : State) : (markCause cause present s).resetHeld = s.resetHeld := rfl
@[simp] theorem markCause_port (cause : LimpCause) (present : Bool) (s : State) : (markCause cause present s).port = s.port := rfl
@[simp] theorem markCause_stack (cause : LimpCause) (present : Bool) (s : State) : (markCause cause present s).stack = s.stack := rfl
@[simp] theorem markCause_outputs (cause : LimpCause) (present : Bool) (s : State) : (markCause cause present s).outputs = s.outputs := rfl
@[simp] theorem markCause_lines (cause : LimpCause) (present : Bool) (s : State) : (markCause cause present s).lines = s.lines := rfl
@[simp] theorem markCause_items (cause : LimpCause) (present : Bool) (s : State) : (markCause cause present s).items = s.items := rfl
@[simp] theorem markCause_demand (cause : LimpCause) (present : Bool) (s : State) : (markCause cause present s).demand = s.demand := rfl
@[simp] theorem markCause_aux (cause : LimpCause) (present : Bool) (s : State) : (markCause cause present s).aux = s.aux := rfl
@[simp] theorem markCause_arbiter (cause : LimpCause) (present : Bool) (s : State) : (markCause cause present s).arbiter = s.arbiter := rfl
@[simp] theorem markCause_horizon (cause : LimpCause) (present : Bool) (s : State) : (markCause cause present s).horizon = s.horizon := rfl
@[simp] theorem markCause_solver (cause : LimpCause) (present : Bool) (s : State) : (markCause cause present s).solver = s.solver := rfl
@[simp] theorem markCause_engine (cause : LimpCause) (present : Bool) (s : State) : (markCause cause present s).engine = s.engine := rfl
@[simp] theorem markCause_link (cause : LimpCause) (present : Bool) (s : State) : (markCause cause present s).link = s.link := rfl

/-! ### startFrames -/

@[simp] theorem startFrames_pending (s : State) : (startFrames s).pending = s.pending := rfl
@[simp] theorem startFrames_now (s : State) : (startFrames s).now = s.now := rfl
@[simp] theorem startFrames_resetHeld (s : State) : (startFrames s).resetHeld = s.resetHeld := rfl
@[simp] theorem startFrames_port (s : State) : (startFrames s).port = s.port := rfl
@[simp] theorem startFrames_stack (s : State) : (startFrames s).stack = s.stack := rfl
@[simp] theorem startFrames_outputs (s : State) : (startFrames s).outputs = s.outputs := rfl
@[simp] theorem startFrames_run (s : State) : (startFrames s).run = s.run := rfl
@[simp] theorem startFrames_lines (s : State) : (startFrames s).lines = s.lines := rfl
@[simp] theorem startFrames_items (s : State) : (startFrames s).items = s.items := rfl
@[simp] theorem startFrames_demand (s : State) : (startFrames s).demand = s.demand := rfl
@[simp] theorem startFrames_aux (s : State) : (startFrames s).aux = s.aux := rfl
@[simp] theorem startFrames_arbiter (s : State) : (startFrames s).arbiter = s.arbiter := rfl
@[simp] theorem startFrames_horizon (s : State) : (startFrames s).horizon = s.horizon := rfl
@[simp] theorem startFrames_engine (s : State) : (startFrames s).engine = s.engine := rfl

/-! ### arbiterStandby -/

@[simp] theorem arbiterStandby_pending (s : State) : (arbiterStandby s).pending = s.pending := rfl
@[simp] theorem arbiterStandby_now (s : State) : (arbiterStandby s).now = s.now := rfl
@[simp] theorem arbiterStandby_resetHeld (s : State) : (arbiterStandby s).resetHeld = s.resetHeld := rfl
@[simp] theorem arbiterStandby_port (s : State) : (arbiterStandby s).port = s.port := rfl
@[simp] theorem arbiterStandby_stack (s : State) : (arbiterStandby s).stack = s.stack := rfl
@[simp] theorem arbiterStandby_outputs (s : State) : (arbiterStandby s).outputs = s.outputs := rfl
@[simp] theorem arbiterStandby_run (s : State) : (arbiterStandby s).run = s.run := rfl
@[simp] theorem arbiterStandby_lines (s : State) : (arbiterStandby s).lines = s.lines := rfl
@[simp] theorem arbiterStandby_items (s : State) : (arbiterStandby s).items = s.items := rfl
@[simp] theorem arbiterStandby_demand (s : State) : (arbiterStandby s).demand = s.demand := rfl
@[simp] theorem arbiterStandby_aux (s : State) : (arbiterStandby s).aux = s.aux := rfl
@[simp] theorem arbiterStandby_horizon (s : State) : (arbiterStandby s).horizon = s.horizon := rfl
@[simp] theorem arbiterStandby_solver (s : State) : (arbiterStandby s).solver = s.solver := rfl
@[simp] theorem arbiterStandby_engine (s : State) : (arbiterStandby s).engine = s.engine := rfl
@[simp] theorem arbiterStandby_link (s : State) : (arbiterStandby s).link = s.link := rfl

/-! ### setUnit -/

@[simp] theorem setUnit_pending (u : UnitId) (change : UnitRecord → UnitRecord) (s : State) : (setUnit u change s).pending = s.pending := rfl
@[simp] theorem setUnit_now (u : UnitId) (change : UnitRecord → UnitRecord) (s : State) : (setUnit u change s).now = s.now := rfl
@[simp] theorem setUnit_resetHeld (u : UnitId) (change : UnitRecord → UnitRecord) (s : State) : (setUnit u change s).resetHeld = s.resetHeld := rfl
@[simp] theorem setUnit_port (u : UnitId) (change : UnitRecord → UnitRecord) (s : State) : (setUnit u change s).port = s.port := rfl
@[simp] theorem setUnit_stack (u : UnitId) (change : UnitRecord → UnitRecord) (s : State) : (setUnit u change s).stack = s.stack := rfl
@[simp] theorem setUnit_outputs (u : UnitId) (change : UnitRecord → UnitRecord) (s : State) : (setUnit u change s).outputs = s.outputs := rfl
@[simp] theorem setUnit_run (u : UnitId) (change : UnitRecord → UnitRecord) (s : State) : (setUnit u change s).run = s.run := rfl
@[simp] theorem setUnit_lines (u : UnitId) (change : UnitRecord → UnitRecord) (s : State) : (setUnit u change s).lines = s.lines := rfl
@[simp] theorem setUnit_items (u : UnitId) (change : UnitRecord → UnitRecord) (s : State) : (setUnit u change s).items = s.items := rfl
@[simp] theorem setUnit_demand (u : UnitId) (change : UnitRecord → UnitRecord) (s : State) : (setUnit u change s).demand = s.demand := rfl
@[simp] theorem setUnit_aux (u : UnitId) (change : UnitRecord → UnitRecord) (s : State) : (setUnit u change s).aux = s.aux := rfl
@[simp] theorem setUnit_arbiter (u : UnitId) (change : UnitRecord → UnitRecord) (s : State) : (setUnit u change s).arbiter = s.arbiter := rfl
@[simp] theorem setUnit_horizon (u : UnitId) (change : UnitRecord → UnitRecord) (s : State) : (setUnit u change s).horizon = s.horizon := rfl
@[simp] theorem setUnit_solver (u : UnitId) (change : UnitRecord → UnitRecord) (s : State) : (setUnit u change s).solver = s.solver := rfl
@[simp] theorem setUnit_engine (u : UnitId) (change : UnitRecord → UnitRecord) (s : State) : (setUnit u change s).engine = s.engine := rfl

/-! ### inFrame -/

@[simp] theorem inFrame_pending (quiet : Bool) (work : FrameWork) (unitsLeft : List UnitId) (s : State) : (inFrame quiet work unitsLeft s).pending = s.pending := rfl
@[simp] theorem inFrame_now (quiet : Bool) (work : FrameWork) (unitsLeft : List UnitId) (s : State) : (inFrame quiet work unitsLeft s).now = s.now := rfl
@[simp] theorem inFrame_resetHeld (quiet : Bool) (work : FrameWork) (unitsLeft : List UnitId) (s : State) : (inFrame quiet work unitsLeft s).resetHeld = s.resetHeld := rfl
@[simp] theorem inFrame_port (quiet : Bool) (work : FrameWork) (unitsLeft : List UnitId) (s : State) : (inFrame quiet work unitsLeft s).port = s.port := rfl
@[simp] theorem inFrame_stack (quiet : Bool) (work : FrameWork) (unitsLeft : List UnitId) (s : State) : (inFrame quiet work unitsLeft s).stack = s.stack := rfl
@[simp] theorem inFrame_outputs (quiet : Bool) (work : FrameWork) (unitsLeft : List UnitId) (s : State) : (inFrame quiet work unitsLeft s).outputs = s.outputs := rfl
@[simp] theorem inFrame_run (quiet : Bool) (work : FrameWork) (unitsLeft : List UnitId) (s : State) : (inFrame quiet work unitsLeft s).run = s.run := rfl
@[simp] theorem inFrame_lines (quiet : Bool) (work : FrameWork) (unitsLeft : List UnitId) (s : State) : (inFrame quiet work unitsLeft s).lines = s.lines := rfl
@[simp] theorem inFrame_items (quiet : Bool) (work : FrameWork) (unitsLeft : List UnitId) (s : State) : (inFrame quiet work unitsLeft s).items = s.items := rfl
@[simp] theorem inFrame_demand (quiet : Bool) (work : FrameWork) (unitsLeft : List UnitId) (s : State) : (inFrame quiet work unitsLeft s).demand = s.demand := rfl
@[simp] theorem inFrame_aux (quiet : Bool) (work : FrameWork) (unitsLeft : List UnitId) (s : State) : (inFrame quiet work unitsLeft s).aux = s.aux := rfl
@[simp] theorem inFrame_arbiter (quiet : Bool) (work : FrameWork) (unitsLeft : List UnitId) (s : State) : (inFrame quiet work unitsLeft s).arbiter = s.arbiter := rfl
@[simp] theorem inFrame_horizon (quiet : Bool) (work : FrameWork) (unitsLeft : List UnitId) (s : State) : (inFrame quiet work unitsLeft s).horizon = s.horizon := rfl
@[simp] theorem inFrame_solver (quiet : Bool) (work : FrameWork) (unitsLeft : List UnitId) (s : State) : (inFrame quiet work unitsLeft s).solver = s.solver := rfl
@[simp] theorem inFrame_engine (quiet : Bool) (work : FrameWork) (unitsLeft : List UnitId) (s : State) : (inFrame quiet work unitsLeft s).engine = s.engine := rfl

/-! ### setFrameTimer -/

@[simp] theorem setFrameTimer_pending (s : State) : (setFrameTimer s).pending = s.pending := rfl
@[simp] theorem setFrameTimer_now (s : State) : (setFrameTimer s).now = s.now := rfl
@[simp] theorem setFrameTimer_resetHeld (s : State) : (setFrameTimer s).resetHeld = s.resetHeld := rfl
@[simp] theorem setFrameTimer_port (s : State) : (setFrameTimer s).port = s.port := rfl
@[simp] theorem setFrameTimer_stack (s : State) : (setFrameTimer s).stack = s.stack := rfl
@[simp] theorem setFrameTimer_outputs (s : State) : (setFrameTimer s).outputs = s.outputs := rfl
@[simp] theorem setFrameTimer_run (s : State) : (setFrameTimer s).run = s.run := rfl
@[simp] theorem setFrameTimer_lines (s : State) : (setFrameTimer s).lines = s.lines := rfl
@[simp] theorem setFrameTimer_items (s : State) : (setFrameTimer s).items = s.items := rfl
@[simp] theorem setFrameTimer_demand (s : State) : (setFrameTimer s).demand = s.demand := rfl
@[simp] theorem setFrameTimer_aux (s : State) : (setFrameTimer s).aux = s.aux := rfl
@[simp] theorem setFrameTimer_arbiter (s : State) : (setFrameTimer s).arbiter = s.arbiter := rfl
@[simp] theorem setFrameTimer_horizon (s : State) : (setFrameTimer s).horizon = s.horizon := rfl
@[simp] theorem setFrameTimer_solver (s : State) : (setFrameTimer s).solver = s.solver := rfl
@[simp] theorem setFrameTimer_engine (s : State) : (setFrameTimer s).engine = s.engine := rfl

/-! ### setReceiver -/

@[simp] theorem setReceiver_pending (r : Receiver) (bytes : List Byte) (s : State) : (setReceiver r bytes s).pending = s.pending := rfl
@[simp] theorem setReceiver_now (r : Receiver) (bytes : List Byte) (s : State) : (setReceiver r bytes s).now = s.now := rfl
@[simp] theorem setReceiver_resetHeld (r : Receiver) (bytes : List Byte) (s : State) : (setReceiver r bytes s).resetHeld = s.resetHeld := rfl
@[simp] theorem setReceiver_stack (r : Receiver) (bytes : List Byte) (s : State) : (setReceiver r bytes s).stack = s.stack := rfl
@[simp] theorem setReceiver_outputs (r : Receiver) (bytes : List Byte) (s : State) : (setReceiver r bytes s).outputs = s.outputs := rfl
@[simp] theorem setReceiver_run (r : Receiver) (bytes : List Byte) (s : State) : (setReceiver r bytes s).run = s.run := rfl
@[simp] theorem setReceiver_lines (r : Receiver) (bytes : List Byte) (s : State) : (setReceiver r bytes s).lines = s.lines := rfl
@[simp] theorem setReceiver_items (r : Receiver) (bytes : List Byte) (s : State) : (setReceiver r bytes s).items = s.items := rfl
@[simp] theorem setReceiver_demand (r : Receiver) (bytes : List Byte) (s : State) : (setReceiver r bytes s).demand = s.demand := rfl
@[simp] theorem setReceiver_aux (r : Receiver) (bytes : List Byte) (s : State) : (setReceiver r bytes s).aux = s.aux := rfl
@[simp] theorem setReceiver_arbiter (r : Receiver) (bytes : List Byte) (s : State) : (setReceiver r bytes s).arbiter = s.arbiter := rfl
@[simp] theorem setReceiver_horizon (r : Receiver) (bytes : List Byte) (s : State) : (setReceiver r bytes s).horizon = s.horizon := rfl
@[simp] theorem setReceiver_solver (r : Receiver) (bytes : List Byte) (s : State) : (setReceiver r bytes s).solver = s.solver := rfl
@[simp] theorem setReceiver_engine (r : Receiver) (bytes : List Byte) (s : State) : (setReceiver r bytes s).engine = s.engine := rfl
@[simp] theorem setReceiver_link (r : Receiver) (bytes : List Byte) (s : State) : (setReceiver r bytes s).link = s.link := rfl

/-! ### queueReply -/

@[simp] theorem queueReply_pending (f : Frame) (s : State) : (queueReply f s).pending = s.pending := rfl
@[simp] theorem queueReply_now (f : Frame) (s : State) : (queueReply f s).now = s.now := rfl
@[simp] theorem queueReply_resetHeld (f : Frame) (s : State) : (queueReply f s).resetHeld = s.resetHeld := rfl
@[simp] theorem queueReply_stack (f : Frame) (s : State) : (queueReply f s).stack = s.stack := rfl
@[simp] theorem queueReply_outputs (f : Frame) (s : State) : (queueReply f s).outputs = s.outputs := rfl
@[simp] theorem queueReply_run (f : Frame) (s : State) : (queueReply f s).run = s.run := rfl
@[simp] theorem queueReply_lines (f : Frame) (s : State) : (queueReply f s).lines = s.lines := rfl
@[simp] theorem queueReply_items (f : Frame) (s : State) : (queueReply f s).items = s.items := rfl
@[simp] theorem queueReply_demand (f : Frame) (s : State) : (queueReply f s).demand = s.demand := rfl
@[simp] theorem queueReply_aux (f : Frame) (s : State) : (queueReply f s).aux = s.aux := rfl
@[simp] theorem queueReply_arbiter (f : Frame) (s : State) : (queueReply f s).arbiter = s.arbiter := rfl
@[simp] theorem queueReply_horizon (f : Frame) (s : State) : (queueReply f s).horizon = s.horizon := rfl
@[simp] theorem queueReply_solver (f : Frame) (s : State) : (queueReply f s).solver = s.solver := rfl
@[simp] theorem queueReply_engine (f : Frame) (s : State) : (queueReply f s).engine = s.engine := rfl
@[simp] theorem queueReply_link (f : Frame) (s : State) : (queueReply f s).link = s.link := rfl

/-! ### beginExecution -/

@[simp] theorem beginExecution_pending (f : Frame) (s : State) : (beginExecution f s).pending = s.pending := rfl
@[simp] theorem beginExecution_now (f : Frame) (s : State) : (beginExecution f s).now = s.now := rfl
@[simp] theorem beginExecution_resetHeld (f : Frame) (s : State) : (beginExecution f s).resetHeld = s.resetHeld := rfl
@[simp] theorem beginExecution_stack (f : Frame) (s : State) : (beginExecution f s).stack = s.stack := rfl
@[simp] theorem beginExecution_outputs (f : Frame) (s : State) : (beginExecution f s).outputs = s.outputs := rfl
@[simp] theorem beginExecution_run (f : Frame) (s : State) : (beginExecution f s).run = s.run := rfl
@[simp] theorem beginExecution_lines (f : Frame) (s : State) : (beginExecution f s).lines = s.lines := rfl
@[simp] theorem beginExecution_items (f : Frame) (s : State) : (beginExecution f s).items = s.items := rfl
@[simp] theorem beginExecution_demand (f : Frame) (s : State) : (beginExecution f s).demand = s.demand := rfl
@[simp] theorem beginExecution_aux (f : Frame) (s : State) : (beginExecution f s).aux = s.aux := rfl
@[simp] theorem beginExecution_arbiter (f : Frame) (s : State) : (beginExecution f s).arbiter = s.arbiter := rfl
@[simp] theorem beginExecution_horizon (f : Frame) (s : State) : (beginExecution f s).horizon = s.horizon := rfl
@[simp] theorem beginExecution_solver (f : Frame) (s : State) : (beginExecution f s).solver = s.solver := rfl
@[simp] theorem beginExecution_engine (f : Frame) (s : State) : (beginExecution f s).engine = s.engine := rfl
@[simp] theorem beginExecution_link (f : Frame) (s : State) : (beginExecution f s).link = s.link := rfl

/-! ### What the plain updates write -/

@[simp] theorem judgeAlert_alert (s : State) : (judgeAlert s).outputs.alert = alertDue s.stack := rfl
@[simp] theorem judgeAlert_limpOut (s : State) : (judgeAlert s).outputs.limpOut = s.outputs.limpOut := rfl
@[simp] theorem setAux_aux (channel : Nat) (c : AuxChannel) (s : State) :
    (setAux channel c s).aux = s.aux.set (channel - 2) c := rfl
@[simp] theorem setHorizon_horizon (h : Horizon) (s : State) : (setHorizon h s).horizon = h := rfl
@[simp] theorem setEngineTimer_state (timer : Option TimeTag) (s : State) :
    (setEngineTimer timer s).engine.state = s.engine.state := rfl
@[simp] theorem setEngineTimer_timer (timer : Option TimeTag) (s : State) :
    (setEngineTimer timer s).engine.timer = timer := rfl
@[simp] theorem markCause_state (cause : LimpCause) (present : Bool) (s : State) :
    (markCause cause present s).run.state = s.run.state := rfl
@[simp] theorem markCause_causes (cause : LimpCause) (present : Bool) (s : State) :
    (markCause cause present s).run.causes = withCause cause present s.run.causes := rfl

/-! ### Pushes -/

@[simp] theorem pushEntry_pending (e : Entry) (s : State) : (pushEntry e s).pending = s.pending := rfl
@[simp] theorem pushEntry_now (e : Entry) (s : State) : (pushEntry e s).now = s.now := rfl
@[simp] theorem pushEntry_resetHeld (e : Entry) (s : State) : (pushEntry e s).resetHeld = s.resetHeld := rfl
@[simp] theorem pushEntry_run (e : Entry) (s : State) : (pushEntry e s).run = s.run := rfl
@[simp] theorem pushEntry_lines (e : Entry) (s : State) : (pushEntry e s).lines = s.lines := rfl
@[simp] theorem pushEntry_items (e : Entry) (s : State) : (pushEntry e s).items = s.items := rfl
@[simp] theorem pushEntry_demand (e : Entry) (s : State) : (pushEntry e s).demand = s.demand := rfl
@[simp] theorem pushEntry_aux (e : Entry) (s : State) : (pushEntry e s).aux = s.aux := rfl
@[simp] theorem pushEntry_arbiter (e : Entry) (s : State) : (pushEntry e s).arbiter = s.arbiter := rfl
@[simp] theorem pushEntry_horizon (e : Entry) (s : State) : (pushEntry e s).horizon = s.horizon := rfl
@[simp] theorem pushEntry_solver (e : Entry) (s : State) : (pushEntry e s).solver = s.solver := rfl
@[simp] theorem pushEntry_engine (e : Entry) (s : State) : (pushEntry e s).engine = s.engine := rfl
@[simp] theorem pushEntry_link (e : Entry) (s : State) : (pushEntry e s).link = s.link := rfl

@[simp] theorem pushEntry_limpOut (e : Entry) (s : State) : (pushEntry e s).outputs.limpOut = s.outputs.limpOut := rfl

@[simp] theorem pushEntry_stack (e : Entry) (s : State) : (pushEntry e s).stack = stackAdd e s.stack := rfl

@[simp] theorem pushEntry_alert (e : Entry) (s : State) :
    (pushEntry e s).outputs.alert = alertDue (stackAdd e s.stack) := rfl

theorem pushEntry_port (e : Entry) (s : State) :
    (pushEntry e s).port = if inMask s.port.noticeMask e.kind then takeNotice e s.port else s.port := rfl

@[simp] theorem lineTakes_receiver (p : Port) : (lineTakes p).receiver = p.receiver := by unfold lineTakes; split <;> rfl
@[simp] theorem lineTakes_partialFrame (p : Port) : (lineTakes p).partialFrame = p.partialFrame := by
  unfold lineTakes; split <;> rfl
@[simp] theorem lineTakes_received (p : Port) : (lineTakes p).received = p.received := by unfold lineTakes; split <;> rfl
@[simp] theorem lineTakes_executing (p : Port) : (lineTakes p).executing = p.executing := by
  unfold lineTakes; split <;> rfl
@[simp] theorem lineTakes_replies (p : Port) : (lineTakes p).replies = p.replies := by unfold lineTakes; split <;> rfl
@[simp] theorem lineTakes_noticeMask (p : Port) : (lineTakes p).noticeMask = p.noticeMask := by
  unfold lineTakes; split <;> rfl

/-- What the free line takes is judged by the transmit side alone. -/
theorem lineTakes_requests (p : Port) (received : List Frame) (executing : Option Frame) :
    lineTakes { p with received := received, executing := executing } =
      { lineTakes p with received := received, executing := executing } := by
  obtain ⟨_, _, _, _, replies, notice, transmitting, _⟩ := p
  cases transmitting <;> cases replies <;> cases notice <;> rfl

/-- A busy line, and one with a reply waiting, takes no notice. -/
theorem lineTakes_busy {p : Port} (h : p.transmitting ≠ none ∨ p.replies ≠ []) : lineTakes p = p := by
  unfold lineTakes; split <;> simp_all

/-- With no notice held the line takes none. -/
theorem lineTakes_noNotice {p : Port} (h : p.notice = none) : lineTakes p = p := by
  unfold lineTakes; split <;> simp_all

@[simp] theorem stackAdd_alertMask (e : Entry) (k : Stack) : (stackAdd e k).alertMask = k.alertMask := by
  unfold stackAdd; split <;> rfl

@[simp] theorem pushAt_pending (tag : TimeTag) (kind : EventKind) (subject : Nat) (detail : Word32) (s : State) :
    (pushAt tag kind subject detail s).pending = s.pending := by
  unfold pushAt; dsimp only; split <;> simp
@[simp] theorem push_pending (kind : EventKind) (subject : Nat) (detail : Word32) (s : State) :
    (push kind subject detail s).pending = s.pending := by
  unfold push; simp
@[simp] theorem pushAt_now (tag : TimeTag) (kind : EventKind) (subject : Nat) (detail : Word32) (s : State) :
    (pushAt tag kind subject detail s).now = s.now := by
  unfold pushAt; dsimp only; split <;> simp
@[simp] theorem push_now (kind : EventKind) (subject : Nat) (detail : Word32) (s : State) :
    (push kind subject detail s).now = s.now := by
  unfold push; simp
@[simp] theorem pushAt_resetHeld (tag : TimeTag) (kind : EventKind) (subject : Nat) (detail : Word32) (s : State) :
    (pushAt tag kind subject detail s).resetHeld = s.resetHeld := by
  unfold pushAt; dsimp only; split <;> simp
@[simp] theorem push_resetHeld (kind : EventKind) (subject : Nat) (detail : Word32) (s : State) :
    (push kind subject detail s).resetHeld = s.resetHeld := by
  unfold push; simp
@[simp] theorem pushAt_run (tag : TimeTag) (kind : EventKind) (subject : Nat) (detail : Word32) (s : State) :
    (pushAt tag kind subject detail s).run = s.run := by
  unfold pushAt; dsimp only; split <;> simp
@[simp] theorem push_run (kind : EventKind) (subject : Nat) (detail : Word32) (s : State) :
    (push kind subject detail s).run = s.run := by
  unfold push; simp
@[simp] theorem pushAt_lines (tag : TimeTag) (kind : EventKind) (subject : Nat) (detail : Word32) (s : State) :
    (pushAt tag kind subject detail s).lines = s.lines := by
  unfold pushAt; dsimp only; split <;> simp
@[simp] theorem push_lines (kind : EventKind) (subject : Nat) (detail : Word32) (s : State) :
    (push kind subject detail s).lines = s.lines := by
  unfold push; simp
@[simp] theorem pushAt_items (tag : TimeTag) (kind : EventKind) (subject : Nat) (detail : Word32) (s : State) :
    (pushAt tag kind subject detail s).items = s.items := by
  unfold pushAt; dsimp only; split <;> simp
@[simp] theorem push_items (kind : EventKind) (subject : Nat) (detail : Word32) (s : State) :
    (push kind subject detail s).items = s.items := by
  unfold push; simp
@[simp] theorem pushAt_demand (tag : TimeTag) (kind : EventKind) (subject : Nat) (detail : Word32) (s : State) :
    (pushAt tag kind subject detail s).demand = s.demand := by
  unfold pushAt; dsimp only; split <;> simp
@[simp] theorem push_demand (kind : EventKind) (subject : Nat) (detail : Word32) (s : State) :
    (push kind subject detail s).demand = s.demand := by
  unfold push; simp
@[simp] theorem pushAt_aux (tag : TimeTag) (kind : EventKind) (subject : Nat) (detail : Word32) (s : State) :
    (pushAt tag kind subject detail s).aux = s.aux := by
  unfold pushAt; dsimp only; split <;> simp
@[simp] theorem push_aux (kind : EventKind) (subject : Nat) (detail : Word32) (s : State) :
    (push kind subject detail s).aux = s.aux := by
  unfold push; simp
@[simp] theorem pushAt_arbiter (tag : TimeTag) (kind : EventKind) (subject : Nat) (detail : Word32) (s : State) :
    (pushAt tag kind subject detail s).arbiter = s.arbiter := by
  unfold pushAt; dsimp only; split <;> simp
@[simp] theorem push_arbiter (kind : EventKind) (subject : Nat) (detail : Word32) (s : State) :
    (push kind subject detail s).arbiter = s.arbiter := by
  unfold push; simp
@[simp] theorem pushAt_horizon (tag : TimeTag) (kind : EventKind) (subject : Nat) (detail : Word32) (s : State) :
    (pushAt tag kind subject detail s).horizon = s.horizon := by
  unfold pushAt; dsimp only; split <;> simp
@[simp] theorem push_horizon (kind : EventKind) (subject : Nat) (detail : Word32) (s : State) :
    (push kind subject detail s).horizon = s.horizon := by
  unfold push; simp
@[simp] theorem pushAt_solver (tag : TimeTag) (kind : EventKind) (subject : Nat) (detail : Word32) (s : State) :
    (pushAt tag kind subject detail s).solver = s.solver := by
  unfold pushAt; dsimp only; split <;> simp
@[simp] theorem push_solver (kind : EventKind) (subject : Nat) (detail : Word32) (s : State) :
    (push kind subject detail s).solver = s.solver := by
  unfold push; simp
@[simp] theorem pushAt_engine (tag : TimeTag) (kind : EventKind) (subject : Nat) (detail : Word32) (s : State) :
    (pushAt tag kind subject detail s).engine = s.engine := by
  unfold pushAt; dsimp only; split <;> simp
@[simp] theorem push_engine (kind : EventKind) (subject : Nat) (detail : Word32) (s : State) :
    (push kind subject detail s).engine = s.engine := by
  unfold push; simp
@[simp] theorem pushAt_link (tag : TimeTag) (kind : EventKind) (subject : Nat) (detail : Word32) (s : State) :
    (pushAt tag kind subject detail s).link = s.link := by
  unfold pushAt; dsimp only; split <;> simp
@[simp] theorem push_link (kind : EventKind) (subject : Nat) (detail : Word32) (s : State) :
    (push kind subject detail s).link = s.link := by
  unfold push; simp
@[simp] theorem pushAt_limpOut (tag : TimeTag) (kind : EventKind) (subject : Nat) (detail : Word32) (s : State) :
    (pushAt tag kind subject detail s).outputs.limpOut = s.outputs.limpOut := by
  unfold pushAt; dsimp only; split <;> simp
@[simp] theorem push_limpOut (kind : EventKind) (subject : Nat) (detail : Word32) (s : State) :
    (push kind subject detail s).outputs.limpOut = s.outputs.limpOut := by
  unfold push; simp
@[simp] theorem pushAt_alertMask (tag : TimeTag) (kind : EventKind) (subject : Nat) (detail : Word32) (s : State) :
    (pushAt tag kind subject detail s).stack.alertMask = s.stack.alertMask := by
  unfold pushAt; dsimp only; split <;> simp
@[simp] theorem push_alertMask (kind : EventKind) (subject : Nat) (detail : Word32) (s : State) :
    (push kind subject detail s).stack.alertMask = s.stack.alertMask := by
  unfold push; simp

/-! ### Triggers -/

@[simp] theorem trigger_pending (s : State) : (trigger s).pending = s.pending := by
  unfold trigger; split <;> rfl
@[simp] theorem trigger_now (s : State) : (trigger s).now = s.now := by
  unfold trigger; split <;> rfl
@[simp] theorem trigger_resetHeld (s : State) : (trigger s).resetHeld = s.resetHeld := by
  unfold trigger; split <;> rfl
@[simp] theorem trigger_port (s : State) : (trigger s).port = s.port := by
  unfold trigger; split <;> rfl
@[simp] theorem trigger_stack (s : State) : (trigger s).stack = s.stack := by
  unfold trigger; split <;> rfl
@[simp] theorem trigger_outputs (s : State) : (trigger s).outputs = s.outputs := by
  unfold trigger; split <;> rfl
@[simp] theorem trigger_run (s : State) : (trigger s).run = s.run := by
  unfold trigger; split <;> rfl
@[simp] theorem trigger_lines (s : State) : (trigger s).lines = s.lines := by
  unfold trigger; split <;> rfl
@[simp] theorem trigger_items (s : State) : (trigger s).items = s.items := by
  unfold trigger; split <;> rfl
@[simp] theorem trigger_demand (s : State) : (trigger s).demand = s.demand := by
  unfold trigger; split <;> rfl
@[simp] theorem trigger_aux (s : State) : (trigger s).aux = s.aux := by
  unfold trigger; split <;> rfl
@[simp] theorem trigger_arbiter (s : State) : (trigger s).arbiter = s.arbiter := by
  unfold trigger; split <;> rfl
@[simp] theorem trigger_horizon (s : State) : (trigger s).horizon = s.horizon := by
  unfold trigger; split <;> rfl
@[simp] theorem trigger_engine (s : State) : (trigger s).engine = s.engine := by
  unfold trigger; split <;> rfl
@[simp] theorem trigger_link (s : State) : (trigger s).link = s.link := by
  unfold trigger; split <;> rfl
@[simp] theorem trigger_record (s : State) : (trigger s).solver.record = s.solver.record := by
  unfold trigger; split <;> rfl
@[simp] theorem trigger_ofThisDrive (s : State) : (trigger s).solver.ofThisDrive = s.solver.ofThisDrive := by
  unfold trigger; split <;> rfl
@[simp] theorem trigger_table (s : State) : (trigger s).solver.table = s.solver.table := by
  unfold trigger; split <;> rfl
@[simp] theorem trigger_latch (s : State) : (trigger s).solver.latch = s.solver.latch := by
  unfold trigger; split <;> rfl
@[simp] theorem trigger_depletion (s : State) : (trigger s).solver.depletion = s.solver.depletion := by
  unfold trigger; split <;> rfl
@[simp] theorem trigger_holds (s : State) : (trigger s).solver.holds = s.solver.holds := by
  unfold trigger; split <;> rfl

/-- A trigger always leaves a solve in flight (R100). -/
theorem trigger_inFlight (s : State) : (trigger s).solver.solve.isSome = true := by
  unfold trigger; split <;> simp_all

/-- In flight, a trigger sets REPEAT and does nothing more (R100). -/
theorem trigger_busy (s : State) (n : Snapshot) (h : s.solver.solve = some n) :
    trigger s = { s with solver := { s.solver with repeatMark := true } } := by
  simp [trigger, h]

/-- While IDLE, a trigger starts a solve with its snapshot (R100, R101). -/
theorem trigger_idle (s : State) (h : s.solver.solve = none) :
    trigger s = { s with solver := { s.solver with solve := some (snapshotOf s) } } := by
  simp [trigger, h]

end Sys2Proof.Machine
end

