-- ==== Sys2Proof/Laws/Frame.lean ====
section
/-! SUPPORT. What each shared operation can do, said once: the groups of state it may write, the port it keeps, and the
Event Stack's law it keeps. A proof about a meaning cites these instead of unfolding the operations. -/

namespace Sys2Proof.Safety

open Sys2Proof.Machine

/-! ## Sets of groups -/

/-- Every group of the first set is one of the second. -/
abbrev Writes.Within (w v : Writes) : Prop :=
  (w.run = true → v.run = true) ∧ (w.lines = true → v.lines = true) ∧ (w.items = true → v.items = true) ∧
  (w.demand = true → v.demand = true) ∧ (w.aux = true → v.aux = true) ∧ (w.arbiter = true → v.arbiter = true) ∧
  (w.horizon = true → v.horizon = true) ∧ (w.solver = true → v.solver = true) ∧
  (w.engine = true → v.engine = true) ∧ (w.link = true → v.link = true)

theorem false_of_within {a b : Bool} (h : a = true → b = true) (hb : b = false) : a = false := by
  cases a
  · rfl
  · exact absurd (h rfl) (by simp [hb])

theorem Unchanged.mono {w v : Writes} {s t : State} (u : Unchanged w s t) (h : w.Within v) : Unchanged v s t := by
  obtain ⟨h1, h2, h3, h4, h5, h6, h7, h8, h9, h10⟩ := h
  exact ⟨u.pending, u.now, u.resetHeld, u.alertMask, fun x => u.limpOut (false_of_within h1 x),
    fun x => u.run (false_of_within h1 x), fun x => u.lines (false_of_within h2 x),
    fun x => u.items (false_of_within h3 x), fun x => u.demand (false_of_within h4 x),
    fun x => u.aux (false_of_within h5 x), fun x => u.arbiter (false_of_within h6 x),
    fun x => u.horizon (false_of_within h7 x), fun x => u.solver (false_of_within h8 x),
    fun x => u.engine (false_of_within h9 x), fun x => u.link (false_of_within h10 x)⟩

theorem Unchanged.refl (w : Writes) (s : State) : Unchanged w s s :=
  ⟨rfl, rfl, rfl, rfl, fun _ => rfl, fun _ => rfl, fun _ => rfl, fun _ => rfl, fun _ => rfl, fun _ => rfl,
    fun _ => rfl, fun _ => rfl, fun _ => rfl, fun _ => rfl, fun _ => rfl⟩

theorem Unchanged.trans {w : Writes} {s t r : State} (a : Unchanged w s t) (b : Unchanged w t r) : Unchanged w s r :=
  ⟨b.pending.trans a.pending, b.now.trans a.now, b.resetHeld.trans a.resetHeld, b.alertMask.trans a.alertMask,
    fun h => (b.limpOut h).trans (a.limpOut h), fun h => (b.run h).trans (a.run h),
    fun h => (b.lines h).trans (a.lines h), fun h => (b.items h).trans (a.items h),
    fun h => (b.demand h).trans (a.demand h), fun h => (b.aux h).trans (a.aux h),
    fun h => (b.arbiter h).trans (a.arbiter h), fun h => (b.horizon h).trans (a.horizon h),
    fun h => (b.solver h).trans (a.solver h), fun h => (b.engine h).trans (a.engine h),
    fun h => (b.link h).trans (a.link h)⟩

/-! ## Acts -/

theorem NoticesTaken.refl (p : Port) : NoticesTaken p p := ⟨rfl, .inl rfl⟩

theorem NoticesTaken.trans {p q r : Port} (a : NoticesTaken p q) (b : NoticesTaken q r) : NoticesTaken p r := by
  obtain ⟨a1, a2⟩ := a
  obtain ⟨b1, b2⟩ := b
  have same : (withoutNotices q).replies = (withoutNotices p).replies := congrArg Port.replies a1
  change q.replies = p.replies at same
  refine ⟨b1.trans a1, ?_⟩
  rcases b2 with b2 | ⟨b3, b4, b5⟩
  · rw [b2]; exact a2
  · rcases a2 with a2 | ⟨_, _, e, he⟩
    · exact .inr ⟨a2 ▸ b3, same ▸ b4, b5⟩
    · rw [b3] at he; exact absurd he (by simp)

/-- What a free line takes is a notice. -/
theorem lineTakes_noticesTaken (p : Port) : NoticesTaken p (lineTakes p) := by
  unfold lineTakes
  split
  · rename_i e h1 h2 h3
    exact ⟨rfl, .inr ⟨h1, h2, e, rfl⟩⟩
  · exact .refl p

theorem takeNotice_noticesTaken (e : Entry) (p : Port) : NoticesTaken p (takeNotice e p) :=
  (lineTakes_noticesTaken p).trans ⟨rfl, .inl rfl⟩

/-- An act of a block from s to t that writes these groups, leaves the port but for its notices, and keeps the stack's
law. -/
structure Act (w : Writes) (s t : State) : Prop where
  unchanged : Unchanged w s t
  port : PortKept s t
  stack : StackLaw s → StackLaw t

theorem Act.refl (w : Writes) (s : State) : Act w s s := ⟨.refl w s, .refl _, id⟩

theorem Act.trans {w : Writes} {s t r : State} (a : Act w s t) (b : Act w t r) : Act w s r :=
  ⟨a.unchanged.trans b.unchanged, NoticesTaken.trans a.port b.port, fun h => b.stack (a.stack h)⟩

theorem Act.mono {w v : Writes} {s t : State} (a : Act w s t) (h : w.Within v) : Act v s t :=
  ⟨a.unchanged.mono h, a.port, a.stack⟩

theorem act_ite {w : Writes} {c : Prop} [Decidable c] {s a b : State} (ha : Act w s a) (hb : Act w s b) :
    Act w s (if c then a else b) := by
  split
  · exact ha
  · exact hb

/-- The first act and the second with an act that reads the state between: both within one set of groups. -/
theorem Act.andThen {w v x : Writes} {s t r : State} (a : Act w s t) (b : Act v t r) (hw : w.Within x)
    (hv : v.Within x) : Act x s r := (a.mono hw).trans (b.mono hv)

/-! ## Pushes and triggers -/

theorem stackAdd_length (e : Entry) (k : Stack) (h : k.entries.length ≤ 128) :
    (stackAdd e k).entries.length ≤ 128 := by
  unfold stackAdd Config.stackCapacity
  split <;> simp <;> omega

theorem pushEntry_act (w : Writes) (e : Entry) (s : State) : Act w s (pushEntry e s) := by
  refine ⟨⟨rfl, rfl, rfl, by simp [pushEntry], fun _ => rfl, fun _ => rfl, fun _ => rfl, fun _ => rfl, fun _ => rfl,
    fun _ => rfl, fun _ => rfl, fun _ => rfl, fun _ => rfl, fun _ => rfl, fun _ => rfl⟩, ?_, ?_⟩
  · unfold PortKept
    rw [pushEntry_port]
    split
    · exact takeNotice_noticesTaken e s.port
    · exact .refl _
  · intro h
    exact ⟨stackAdd_length e s.stack h.1, fun _ => rfl⟩

theorem pushAt_act (w : Writes) (tag : TimeTag) (kind : EventKind) (subject : Nat) (detail : Word32) (s : State) :
    Act w s (pushAt tag kind subject detail s) := by
  unfold pushAt
  dsimp only
  split
  · exact (pushEntry_act w _ s).trans (pushEntry_act w _ _)
  · exact pushEntry_act w _ s

theorem push_act (w : Writes) (kind : EventKind) (subject : Nat) (detail : Word32) (s : State) :
    Act w s (push kind subject detail s) := pushAt_act w _ _ _ _ _

theorem trigger_act (w : Writes) (s : State) : Act w s (trigger s) := by
  unfold trigger
  split <;> exact ⟨⟨rfl, rfl, rfl, rfl, fun _ => rfl, fun _ => rfl, fun _ => rfl, fun _ => rfl, fun _ => rfl,
    fun _ => rfl, fun _ => rfl, fun _ => rfl, fun _ => rfl, fun _ => rfl, fun _ => rfl⟩, .refl _, id⟩

theorem setAux_act (channel : Nat) (c : AuxChannel) (s : State) : Act { aux := true } s (setAux channel c s) := by
  refine ⟨⟨rfl, rfl, rfl, rfl, ?_, ?_, ?_, ?_, ?_, ?_, ?_, ?_, ?_, ?_, ?_⟩, .refl _, id⟩ <;> intro h <;>
    first | rfl | exact Bool.noConfusion h

/-- A new Arbiter. -/
theorem arbiter_act (a : Arbiter) (s : State) : Act { arbiter := true } s { s with arbiter := a } := by
  refine ⟨⟨rfl, rfl, rfl, rfl, ?_, ?_, ?_, ?_, ?_, ?_, ?_, ?_, ?_, ?_, ?_⟩, .refl _, id⟩ <;> intro h <;>
    first | rfl | exact Bool.noConfusion h

/-- A new Sequencer. -/
theorem engine_act (e : Engine) (s : State) : Act { engine := true } s { s with engine := e } := by
  refine ⟨⟨rfl, rfl, rfl, rfl, ?_, ?_, ?_, ?_, ?_, ?_, ?_, ?_, ?_, ?_, ?_⟩, .refl _, id⟩ <;> intro h <;>
    first | rfl | exact Bool.noConfusion h

/-- A new horizon. -/
theorem setHorizon_act (h : Horizon) (s : State) : Act { horizon := true } s (setHorizon h s) := by
  refine ⟨⟨rfl, rfl, rfl, rfl, ?_, ?_, ?_, ?_, ?_, ?_, ?_, ?_, ?_, ?_, ?_⟩, .refl _, id⟩ <;> intro h <;>
    first | rfl | exact Bool.noConfusion h

/-- New demand channels. -/
theorem demand_act (d : Demand) (s : State) : Act { demand := true } s { s with demand := d } := by
  refine ⟨⟨rfl, rfl, rfl, rfl, ?_, ?_, ?_, ?_, ?_, ?_, ?_, ?_, ?_, ?_, ?_⟩, .refl _, id⟩ <;> intro h <;>
    first | rfl | exact Bool.noConfusion h

/-- A new link. -/
theorem link_act (l : Link) (s : State) : Act { link := true } s { s with link := l } := by
  refine ⟨⟨rfl, rfl, rfl, rfl, ?_, ?_, ?_, ?_, ?_, ?_, ?_, ?_, ?_, ?_, ?_⟩, .refl _, id⟩ <;> intro h <;>
    first | rfl | exact Bool.noConfusion h

/-- A new Solver. -/
theorem solver_act (x : Solver) (s : State) : Act { solver := true } s { s with solver := x } := by
  refine ⟨⟨rfl, rfl, rfl, rfl, ?_, ?_, ?_, ?_, ?_, ?_, ?_, ?_, ?_, ?_, ?_⟩, .refl _, id⟩ <;> intro h <;>
    first | rfl | exact Bool.noConfusion h

/-- New items. -/
theorem items_act (x : Items) (s : State) : Act { items := true } s { s with items := x } := by
  refine ⟨⟨rfl, rfl, rfl, rfl, ?_, ?_, ?_, ?_, ?_, ?_, ?_, ?_, ?_, ?_, ?_⟩, .refl _, id⟩ <;> intro h <;>
    first | rfl | exact Bool.noConfusion h

/-- New inputs. -/
theorem lines_act (x : Lines) (s : State) : Act { lines := true } s { s with lines := x } := by
  refine ⟨⟨rfl, rfl, rfl, rfl, ?_, ?_, ?_, ?_, ?_, ?_, ?_, ?_, ?_, ?_, ?_⟩, .refl _, id⟩ <;> intro h <;>
    first | rfl | exact Bool.noConfusion h

/-- A new Run Control with its output. -/
theorem run_act (r : RunControl) (limpOut : Bool) (s : State) :
    Act { run := true } s { s with run := r, outputs := { s.outputs with limpOut := limpOut } } := by
  refine ⟨⟨rfl, rfl, rfl, rfl, ?_, ?_, ?_, ?_, ?_, ?_, ?_, ?_, ?_, ?_, ?_⟩, .refl _, id⟩ <;> intro h <;>
    first | rfl | exact Bool.noConfusion h

end Sys2Proof.Safety
end

