-- ==== Sys2Proof/Laws/Acts.lean ====
section
/-! SUPPORT. One lemma for each act of the Grant Arbiter, the Engine Sequencer, Run Control, the Channel Table and the
Horizon Tracker: which groups of state it may write. -/

namespace Sys2Proof.Safety

open Sys2Proof.Machine

/-! ## Grant Arbiter -/

/-- What an act of the Arbiter writes. -/
abbrev grantWrites : Writes := { aux := true, arbiter := true }

theorem grantAsk_act (ask : Ask) (pool : Pool) (s : State) : Act grantWrites s (grantAsk ask pool s) :=
  ((arbiter_act _ s).andThen (setAux_act _ _ _) (by decide) (by decide)).trans (push_act _ _ _ _ _)

theorem passSteps_act (n : Nat) (s : State) : Act grantWrites s (passSteps n s) := by
  induction n generalizing s with
  | zero => exact .refl _ s
  | succ n ih =>
    unfold passSteps
    split
    · exact (grantAsk_act _ _ s).trans (ih _)
    · exact .refl _ s

theorem pass_act (s : State) : Act grantWrites s (pass s) := passSteps_act _ s

theorem arbiterAct_act {w : Writes} {f : State → State} {s : State} (h : Act w s (f s)) :
    Act w s (arbiterAct f s) := by
  unfold arbiterAct
  dsimp only
  split
  · exact h
  · exact h.trans (trigger_act _ _)

theorem revoke_act (reason : RevokeReason) (channel : Nat) (c : AuxChannel) (s : State) :
    Act { aux := true } s (revoke reason channel c s) := (setAux_act _ _ s).trans (push_act _ _ _ _ _)

theorem revokeEach_act (reason : RevokeReason) (eligible : AuxChannel → Bool) (n : Nat) (s : State) :
    Act { aux := true } s (revokeEach reason eligible n s) := by
  induction n generalizing s with
  | zero => exact .refl _ s
  | succ n ih =>
    unfold revokeEach
    split
    · exact (revoke_act _ _ _ s).trans (ih _)
    · exact .refl _ s

theorem revokeOver_act (pool : Pool) (n : Nat) (s : State) : Act { aux := true } s (revokeOver pool n s) := by
  induction n generalizing s with
  | zero => exact .refl _ s
  | succ n ih =>
    unfold revokeOver
    split
    · exact .refl _ s
    · split
      · exact (revoke_act _ _ _ s).trans (ih _)
      · exact .refl _ s

theorem dropAsk_act (reason : RevokeReason) (s : State) (ask : Ask) : Act grantWrites s (dropAsk reason s ask) :=
  ((arbiter_act _ s).andThen (setAux_act _ _ _) (by decide) (by decide)).trans (push_act _ _ _ _ _)

theorem foldl_act {w : Writes} {α : Type} {f : State → α → State} (h : ∀ s a, Act w s (f s a)) (l : List α)
    (s : State) : Act w s (l.foldl f s) := by
  induction l generalizing s with
  | nil => exact .refl _ s
  | cons a l ih => exact (h s a).trans (ih _)

theorem dropAsks_act (reason : RevokeReason) (dropped : LoadClass → Bool) (s : State) :
    Act grantWrites s (dropAsks reason dropped s) := foldl_act (dropAsk_act reason) _ s

theorem arbiterShutOut_act (reason : RevokeReason) (shut : LoadClass → Bool) (s : State) :
    Act grantWrites s (arbiterShutOut reason shut s) := by
  have removed := ((revokeEach_act reason (fun c : AuxChannel => isGranted c && shut c.cls) s.aux.length s).mono
    (v := grantWrites) (by decide)).trans (dropAsks_act reason shut _)
  unfold arbiterShutOut
  dsimp only
  split
  · exact removed.trans (pass_act _)
  · exact removed

theorem arbiterActive_act (s : State) : Act grantWrites s (arbiterActive s) := arbiterAct_act (pass_act s)

theorem arbiterLimp_act (s : State) : Act grantWrites s (arbiterLimp s) := arbiterAct_act (arbiterShutOut_act _ _ s)

theorem arbiterWinddown_act (s : State) : Act grantWrites s (arbiterWinddown s) :=
  arbiterAct_act (arbiterShutOut_act _ _ s)

theorem arbiterStandby_act (s : State) : Act { arbiter := true } s (arbiterStandby s) := arbiter_act _ s

theorem arbiterTake_act (r : SplitRecord) (s : State) : Act grantWrites s (arbiterTake r s) :=
  arbiterAct_act ((((arbiter_act _ s).mono (by decide)).trans
    (((revokeOver_act .generation _ _).trans (revokeOver_act .battery _ _)).mono (by decide))).trans (pass_act _))

theorem releaseGrant_act (channel : Nat) (s : State) : Act grantWrites s (releaseGrant channel s) :=
  arbiterAct_act (((setAux_act _ _ s).mono (by decide)).trans (pass_act _))

theorem overdrawCheck_act (s : State) : Act { arbiter := true } s (overdrawCheck s) := by
  unfold overdrawCheck
  split
  · exact .refl _ s
  · split
    · split
      · exact .refl _ s
      · exact (arbiter_act _ s).trans (push_act _ _ _ _ _)
    · exact arbiter_act _ s

/-! ## Engine Sequencer -/

/-- What an act of the Sequencer writes. -/
abbrev engineWrites : Writes := { engine := true }

theorem setEngine_act (new : EngineState) (cause : EngineCause) (s : State) :
    Act engineWrites s (setEngine new cause s) := (engine_act _ s).trans (push_act _ _ _ _ _)

theorem setEngineTimer_act (timer : Option TimeTag) (s : State) : Act engineWrites s (setEngineTimer timer s) :=
  engine_act _ s

theorem engineAct_act {w : Writes} {f : State → State} {s : State} (h : Act w s (f s)) :
    Act w s (engineAct f s) := by
  unfold engineAct
  dsimp only
  split
  · exact h
  · exact h.trans (trigger_act _ _)

theorem enterStopping_act (cause : EngineCause) (s : State) : Act engineWrites s (enterStopping cause s) :=
  (setEngineTimer_act _ s).trans (setEngine_act _ _ _)

theorem enterBarred_act (reason : BarReason) (cause : EngineCause) (s : State) :
    Act engineWrites s (enterBarred reason cause s) :=
  ((engine_act _ s).trans (setEngine_act _ _ _)).trans (push_act _ _ _ _ _)

theorem failAttempt_act (reason : StartFailure) (cause : EngineCause) (s : State) :
    Act engineWrites s (failAttempt reason cause s) := by
  have failed := (setEngineTimer_act none s).trans
    (push_act engineWrites .startFailed s.engine.attempt
      (detail4 (pathCode s.engine.path) (failureCode reason) 0 0) (setEngineTimer none s))
  unfold failAttempt
  dsimp only
  split
  · split
    · exact failed.trans (setEngineTimer_act _ _)
    · exact (failed.trans (setEngineTimer_act _ _)).trans (setEngine_act _ _ _)
  · exact failed.trans (enterBarred_act _ _ _)

theorem beginAttempt_act (cause : EngineCause) (s : State) : Act engineWrites s (beginAttempt cause s) := by
  unfold beginAttempt
  dsimp only
  split
  · exact (engine_act _ s).trans (failAttempt_act _ _ _)
  · split
    · exact (engine_act _ s).trans (failAttempt_act _ _ _)
    · exact ((engine_act _ s).trans (setEngineTimer_act _ _)).trans (setEngine_act _ _ _)

theorem startSequence_act (s : State) : Act engineWrites s (startSequence s) :=
  (engine_act _ s).trans (beginAttempt_act _ _)

theorem leaveRunning_act (s : State) : Act engineWrites s (leaveRunning s) := by
  unfold leaveRunning
  split
  · exact setEngine_act _ _ s
  · exact enterStopping_act _ s

theorem engineTake_act (r : SplitRecord) (s : State) : Act engineWrites s (engineTake r s) := by
  refine engineAct_act ?_
  dsimp only
  split
  · split
    · exact (engine_act _ s).trans (startSequence_act _)
    · exact engine_act _ s
  · exact (engine_act _ s).trans (leaveRunning_act _)
  · exact (engine_act _ s).trans (setEngine_act _ _ _)
  · exact engine_act _ s

theorem restEnds_act (s : State) : Act engineWrites s (restEnds s) := by
  unfold restEnds
  split
  · exact (engine_act _ s).trans (beginAttempt_act _ _)
  · exact (setEngineTimer_act _ s).trans (setEngine_act _ _ _)

theorem attemptSucceeds_act (s : State) : Act engineWrites s (attemptSucceeds s) := by
  unfold attemptSucceeds
  dsimp only
  split
  · split
    · exact (engine_act _ s).trans (setEngine_act _ _ _)
    · exact ((engine_act _ s).trans (setEngine_act _ _ _)).trans (leaveRunning_act _)
  · exact ((engine_act _ s).trans (setEngineTimer_act _ _)).trans (setEngine_act _ _ _)

theorem warmUpEnds_act (cause : EngineCause) (s : State) : Act engineWrites s (warmUpEnds cause s) := by
  unfold warmUpEnds
  dsimp only
  split
  · exact (setEngineTimer_act _ s).trans (setEngine_act _ _ _)
  · split
    · exact (setEngineTimer_act _ s).trans (setEngine_act _ _ _)
    · exact (setEngineTimer_act _ s).trans (enterStopping_act _ _)

theorem stopEnds_act (s : State) : Act engineWrites s (stopEnds s) := by
  unfold stopEnds
  dsimp only
  split
  · exact (engine_act _ s).trans (enterBarred_act _ _ _)
  · exact (engine_act _ s).trans (setEngine_act _ _ _)

theorem stopLimitEnds_act (s : State) : Act engineWrites s (stopLimitEnds s) := by
  unfold stopLimitEnds
  split
  · exact (engine_act _ s).trans (enterBarred_act _ _ _)
  · exact stopEnds_act s

theorem forcedStop_act (cause : EngineCause) (s : State) : Act engineWrites s (forcedStop cause s) := by
  refine engineAct_act ?_
  split
  iterate 4 exact enterStopping_act _ s
  · exact (setEngineTimer_act _ s).trans (setEngine_act _ _ _)
  all_goals exact .refl _ s

theorem faultStop_act (s : State) : Act engineWrites s (faultStop s) :=
  (engine_act _ s).trans (enterStopping_act _ _)

theorem engineReport_act (s : State) : Act engineWrites s (engineReport s) := by
  unfold engineReport
  split
  · exact act_ite (failAttempt_act _ _ s) (act_ite (attemptSucceeds_act s) (.refl _ s))
  · exact act_ite (faultStop_act s) (act_ite (warmUpEnds_act _ s) (.refl _ s))
  · exact act_ite (faultStop_act s) (.refl _ s)
  · exact act_ite (faultStop_act s) (.refl _ s)
  · have noted : Act engineWrites s
        (if euFault s then { s with engine := { s.engine with faultNoted := true } } else s) :=
      act_ite (engine_act _ s) (.refl _ s)
    exact act_ite (noted.trans (stopEnds_act _)) noted
  all_goals exact .refl _ s

theorem engineRestored_act (s : State) : Act engineWrites s (engineRestored s) := by
  have running : Act engineWrites s (setEngine .running .euRestored
      { s with engine := { s.engine with minRun := some s.now } }) := (engine_act _ s).trans (setEngine_act _ _ _)
  unfold engineRestored
  dsimp only
  split
  · split
    · exact running.trans (enterStopping_act _ _)
    · exact act_ite (running.trans (faultStop_act _)) (act_ite running (running.trans (enterStopping_act _ _)))
  · exact setEngine_act _ _ s

theorem engineTakeReport_act (entered : Bool) (s : State) : Act engineWrites s (engineTakeReport entered s) :=
  engineAct_act (act_ite (engineRestored_act s) (engineReport_act s))

theorem engineLost_act (s : State) : Act engineWrites s (engineLost s) := by
  refine engineAct_act ?_
  split
  · exact .refl _ s
  · exact .refl _ s
  · exact (engine_act _ s).trans (setEngine_act _ _ _)

/-! ## Run Control and the Channel Table -/

/-- What an entry to LIMP writes, and the beginning of a limp cause with it. -/
abbrev limpWrites : Writes := { run := true, aux := true, arbiter := true }

theorem changeRun_act (new : RunState) (s : State) : Act { run := true } s (changeRun new s) :=
  (run_act _ _ s).trans (push_act _ _ _ _ _)

theorem markCause_act (cause : LimpCause) (present : Bool) (s : State) :
    Act { run := true } s (markCause cause present s) := run_act _ s.outputs.limpOut s

theorem enterLimp_act (s : State) : Act limpWrites s (enterLimp s) :=
  ((changeRun_act _ s).andThen (arbiterLimp_act _) (by decide) (by decide)).trans (trigger_act _ _)

theorem causeBegins_act (cause : LimpCause) (s : State) : Act limpWrites s (causeBegins cause s) := by
  have marked := (markCause_act cause true s).mono (v := limpWrites) (by decide)
  exact act_ite (marked.trans (enterLimp_act _)) marked

theorem causeEnds_act (cause : LimpCause) (s : State) : Act { run := true } s (causeEnds cause s) :=
  markCause_act cause false s

theorem channelsActive_act (s : State) : Act { demand := true } s (channelsActive s) :=
  act_ite (demand_act _ s) (.refl _ s)

theorem demandAct_act (f : Demand → Demand) (s : State) : Act { demand := true } s (demandAct f s) := by
  unfold demandAct
  dsimp only
  split
  · exact demand_act _ s
  · exact (demand_act _ s).trans (trigger_act _ _)

/-- What an entry to ACTIVE writes, the link apart. -/
abbrev activeWrites : Writes := { run := true, aux := true, arbiter := true, demand := true }

theorem enterActive_act (s : State) : Act activeWrites s (enterActive s) :=
  (((changeRun_act _ s).mono (by decide)).trans ((arbiterActive_act _).mono (by decide))).trans
    ((channelsActive_act _).mono (by decide))

theorem clearLimp_act (s : State) : Act activeWrites s (clearLimp s) := (enterActive_act s).trans (trigger_act _ _)

/-- What RUN writes. -/
abbrev driveWrites : Writes :=
  { run := true, aux := true, arbiter := true, demand := true, solver := true, link := true }

theorem startFrames_act (s : State) : Act driveWrites s (startFrames s) :=
  ((link_act { s.link with
      frame := .waiting, timer := some (afterMs s.now s.items.framePeriod), periodRead := s.items.framePeriod } s).mono
    (by decide)).trans ((solver_act { s.solver with ofThisDrive := false } _).mono (by decide))

theorem startDrive_act (s : State) : Act driveWrites s (startDrive s) := by
  have active : Act driveWrites s (trigger (startFrames (enterActive s))) :=
    (((enterActive_act s).mono (by decide)).trans (startFrames_act _)).trans (trigger_act _ _)
  exact act_ite active (active.trans ((enterLimp_act _).mono (by decide)))

/-- What an entry to WINDDOWN writes. -/
abbrev winddownWrites : Writes := { run := true, aux := true, arbiter := true, engine := true, demand := true }

theorem enterWinddown_act (s : State) : Act winddownWrites s (enterWinddown s) :=
  (((((changeRun_act _ s).mono (by decide)).trans ((demandAct_act _ _).mono (by decide))).trans
    ((arbiterWinddown_act _).mono (by decide))).trans ((forcedStop_act _ _).mono (by decide))).trans (trigger_act _ _)

theorem endShift_act (s : State) : Act winddownWrites s (endShift s) := act_ite (enterWinddown_act s) (.refl _ s)

theorem linkStandby_act (s : State) : Act { link := true } s (linkStandby s) := by
  unfold linkStandby
  dsimp only
  have stopped : Act { link := true } s { s with link := { s.link with
      frame := .noFrames, timer := none
      laneA := { s.link.laneA with restorePending := false }
      laneB := { s.link.laneB with restorePending := false } } } := link_act _ s
  split <;> split <;> first
    | exact (stopped.trans (push_act _ _ _ _ _)).trans (push_act _ _ _ _ _)
    | exact stopped.trans (push_act _ _ _ _ _)
    | exact stopped

/-- What an entry to STANDBY writes. -/
abbrev standbyWrites : Writes := { run := true, arbiter := true, demand := true, link := true }

theorem enterStandby_act (s : State) : Act standbyWrites s (enterStandby s) :=
  ((((((changeRun_act _ s).mono (by decide)).trans ((linkStandby_act _).mono (by decide))).trans
    ((markCause_act _ _ _).mono (by decide))).trans ((demandAct_act _ _).mono (by decide))).trans
    ((arbiterStandby_act _).mono (by decide))).trans (trigger_act _ _)

theorem quietFrameDone_act (s : State) : Act standbyWrites s (quietFrameDone s) :=
  act_ite (enterStandby_act s) (.refl _ s)

/-! ## Horizon Tracker -/

/-- What the end of an act of the Tracker writes: a zone change may stop the engine. -/
abbrev trackerWrites : Writes := { horizon := true, engine := true }

theorem handContext_act (c : ZoneContext) (s : State) : Act trackerWrites s (handContext c s) := by
  have handed : Act trackerWrites s (trigger (setHorizon { s.horizon with context := c } s)) :=
    ((setHorizon_act _ s).mono (by decide)).trans (trigger_act _ _)
  exact act_ite (.refl _ s) (act_ite (handed.trans ((forcedStop_act _ _).mono (by decide))) handed)

theorem pushZoneEntry_act (w : Writes) (c : ZoneContext) (s : State) : Act w s (pushZoneEntry c s) :=
  act_ite (.refl _ s) (push_act _ _ _ _ _)

theorem pushReserveShort_act (w : Writes) (c : ZoneContext) (s : State) : Act w s (pushReserveShort c s) :=
  act_ite (push_act _ _ _ _ _) (.refl _ s)

theorem trackerEnd_act (s : State) : Act trackerWrites s (trackerEnd s) :=
  (((pushZoneEntry_act _ _ s).trans (pushReserveShort_act _ _ _)).trans ((setHorizon_act _ _).mono (by decide))).trans
    (handContext_act _ _)

theorem swapNow_act (form : SwapForm) (s : State) : Act { horizon := true } s (swapNow form s) :=
  (setHorizon_act _ s).trans (push_act _ _ _ _ _)

theorem pushSegmentDone_act (w : Writes) (reason : DoneReason) (s : State) (g : Segment) :
    Act w s (pushSegmentDone reason s g) := push_act _ _ _ _ _

theorem runOut_act (s : State) : Act { horizon := true } s (runOut s) :=
  (setHorizon_act _ s).trans (push_act _ _ _ _ _)

theorem completeHead_act (g : Segment) (rest : List Segment) (s : State) :
    Act { horizon := true } s (completeHead g rest s) := by
  have done := (setHorizon_act { setActiveList rest s.horizon with distance := s.horizon.distance - g.length } s).trans
    (pushSegmentDone_act _ .completed _ g)
  exact act_ite ((done.trans (setHorizon_act _ _)).trans (push_act _ _ _ _ _)) done

theorem completeHeads_act (n : Nat) (s : State) : Act { horizon := true } s (completeHeads n s) := by
  induction n generalizing s with
  | zero => exact .refl _ s
  | succ n ih =>
    unfold completeHeads
    split
    · exact .refl _ s
    · exact act_ite (.refl _ s) (act_ite ((completeHead_act _ _ s).trans (runOut_act _))
        ((completeHead_act _ _ s).trans (ih _)))

theorem takeDistance_act (dm : Nat) (s : State) : Act trackerWrites s (takeDistance dm s) := by
  have moved : Act trackerWrites s (setHorizon { s.horizon with
      distance := s.horizon.distance + (s.horizon.carry + dm) / 10, carry := (s.horizon.carry + dm) % 10 } s) :=
    (setHorizon_act _ s).mono (by decide)
  exact act_ite (.refl _ s) (act_ite moved ((moved.trans ((completeHeads_act _ _).mono (by decide))).trans
    (trackerEnd_act _)))

end Sys2Proof.Safety
end

