-- ==== Sys2Proof/Laws/Checks.lean ====
section
/-! SUPPORT. What the check of a named computation raises (R8): one of OVERFLOW and UNDERFLOW at most. -/

namespace Sys2Proof.Safety

open Sys2Proof.Machine

/-- A computation does not raise both OVERFLOW and UNDERFLOW (R8). -/
abbrev OneCondition (c : Computed) : Prop := ¬ (c.conditions.overflow = true ∧ c.conditions.underflow = true)

theorem compute_oneCondition (exact : Exact) (lo hi : Int) (divide trapping : Bool) :
    OneCondition (compute exact lo hi divide trapping) := by
  unfold OneCondition compute rangeCheck
  cases divide <;> cases trapping <;> simp [Conditions.union, Conditions.empty] <;> split_ifs <;> simp

theorem fitShare_oneCondition (wanted lo hi : Int) (k : Option Exact) : OneCondition (fitShare wanted lo hi k) := by
  cases k with
  | none => exact compute_oneCondition _ _ _ _ _
  | some k =>
    simp only [OneCondition, fitShare]
    intro ⟨overflow, underflow⟩
    simp [overflow] at underflow

end Sys2Proof.Safety
end

