-- ==== Sys2Proof/Laws/LinkActs.lean ====
section
/-! SUPPORT. One lemma for each act of the Unit Link Controller and the Split Solver, and for the host line: which groups
of state it may write. -/

namespace Sys2Proof.Safety

open Sys2Proof.Machine

/-! ## Unit and lane records -/

theorem setUnit_act (u : UnitId) (change : UnitRecord → UnitRecord) (s : State) :
    Act { link := true } s (setUnit u change s) := link_act _ s

theorem invalidate_act (u : UnitId) (s : State) : Act { link := true } s (invalidate u s) := by
  cases u <;> exact link_act _ s

theorem count_act (u : UnitId) (lane : LaneId) (change : LaneCounters → LaneCounters) (s : State) :
    Act { link := true } s (count u lane change s) := link_act _ s

/-- What a change of a lane writes: LINK_DOWN may begin or end. -/
abbrev laneWrites : Writes := { run := true, aux := true, arbiter := true, link := true }

theorem changeLane_act (lane : LaneId) (new : Lane) (cause : LaneCause) (s : State) :
    Act laneWrites s (changeLane lane new cause s) := by
  have changed : Act laneWrites s (pushLane lane new.state (laneRecordOf s.link lane).state cause
      { s with link := withLane lane new s.link }) :=
    ((link_act _ s).mono (by decide)).trans (push_act _ _ _ _ _)
  exact act_ite (changed.trans ((causeBegins_act _ _).mono (by decide)))
    (act_ite (changed.trans ((causeEnds_act _ _).mono (by decide))) changed)

theorem faultLane_act (lane : LaneId) (cause : LaneCause) (s : State) :
    Act laneWrites s (faultLane lane cause s) := by
  unfold faultLane
  dsimp only
  split
  · exact changeLane_act _ _ _ s
  · exact changeLane_act _ _ _ s
  all_goals exact .refl _ s

theorem cutLane_act (lane : LaneId) (s : State) : Act laneWrites s (cutLane lane s) :=
  act_ite (changeLane_act _ _ _ s) (.refl _ s)

theorem judgeClean_act (lane : LaneId) (m : TxnLane) (s : State) : Act laneWrites s (judgeClean lane m s) :=
  act_ite (act_ite ((link_act _ s).mono (by decide)) (act_ite ((link_act _ s).mono (by decide))
    (changeLane_act _ _ _ s))) (.refl _ s)

theorem inFrame_act (quiet : Bool) (work : FrameWork) (unitsLeft : List UnitId) (s : State) :
    Act { link := true } s (inFrame quiet work unitsLeft s) := link_act _ s

/-! ## Frames -/

theorem endFrame_act (quiet : Bool) (s : State) : Act frameWrites s (endFrame quiet s) := by
  have waiting : Act frameWrites s { s with link := { s.link with frame := .waiting } } :=
    (link_act _ s).mono (by decide)
  exact act_ite (waiting.trans ((quietFrameDone_act _).mono (by decide))) waiting

theorem handLoss_act (u : UnitId) (s : State) : Act frameWrites s (handLoss u s) := by
  cases u
  · exact ((causeBegins_act _ s).mono (by decide)).trans (trigger_act _ _)
  · exact ((engineLost_act s).mono (by decide)).trans (trigger_act _ _)
  · exact ((causeBegins_act _ s).mono (by decide)).trans (trigger_act _ _)
  · exact .refl _ s

theorem declareLost_act (u : UnitId) (s : State) : Act frameWrites s (declareLost u s) := by
  have lost := ((setUnit_act u (fun r => { r with health := .lost }) s).trans (invalidate_act u _)).mono
    (v := frameWrites) (by decide)
  exact (lost.trans (push_act _ _ _ _ _)).trans (handLoss_act u _)

theorem missPart_act (u : UnitId) (s : State) : Act frameWrites s (missPart u s) := by
  have missed : Act frameWrites s (setUnit u (fun r => { r with missed := raise r.missed }) s) :=
    (setUnit_act u _ s).mono (by decide)
  exact act_ite (missed.trans (declareLost_act u _)) missed

theorem beginTxn_act (quiet : Bool) (u : UnitId) (lane : LaneId) (unitsLeft : List UnitId) (s : State) :
    Act { link := true } s (beginTxn quiet u lane unitsLeft s) :=
  (setUnit_act u (fun r => { r with sequence := (unitRecord s.link u).sequence + 1 }) s).trans (inFrame_act _ _ _ _)

theorem runUnits_act (quiet : Bool) (l : List UnitId) (s : State) : Act frameWrites s (runUnits quiet l s) := by
  induction l generalizing s with
  | nil => exact endFrame_act quiet s
  | cons u rest ih =>
    unfold runUnits
    split
    · split
      · exact (beginTxn_act _ _ _ _ s).mono (by decide)
      · exact (missPart_act u s).trans (ih _)
    · exact ih s

theorem runProbes_act (quiet : Bool) (lanes : List LaneId) (s : State) :
    Act frameWrites s (runProbes quiet lanes s) := by
  cases lanes
  · exact runUnits_act _ _ s
  · exact (inFrame_act _ _ _ s).mono (by decide)

theorem beginFrame_act (s : State) : Act frameWrites s (beginFrame s) := runProbes_act _ _ s

theorem frameOverrun_act (s : State) : Act { link := true } s (frameOverrun s) :=
  (link_act _ s).trans (push_act _ _ _ _ _)

theorem setFrameTimer_act (s : State) : Act { link := true } s (setFrameTimer s) := link_act _ s

theorem frameTimerEnds_act (s : State) : Act frameWrites s (frameTimerEnds s) := by
  have timed := (setFrameTimer_act s).mono (v := frameWrites) (by decide)
  unfold frameTimerEnds
  dsimp only
  split
  · exact timed.trans (beginFrame_act _)
  · exact timed.trans ((frameOverrun_act _).mono (by decide))
  · exact timed

/-! ## Transactions -/

theorem endTxn_act (quiet : Bool) (t : Txn) (success : Bool) (unitsLeft : List UnitId) (s : State) :
    Act frameWrites s (endTxn quiet t success unitsLeft s) := by
  have judged : Act frameWrites s (judgeClean .b t.onB (judgeClean .a t.onA s)) :=
    ((judgeClean_act _ _ s).trans (judgeClean_act _ _ _)).mono (by decide)
  unfold endTxn
  exact (act_ite judged (judged.trans (missPart_act _ _))).trans (runUnits_act _ _ _)

theorem nextAttempt_act (quiet : Bool) (t : Txn) (unitsLeft : List UnitId) (s : State) :
    Act frameWrites s (nextAttempt quiet t unitsLeft s) := by
  unfold nextAttempt
  split
  · exact (inFrame_act _ _ _ s).mono (by decide)
  · exact endTxn_act _ _ _ _ s

theorem copyOrEnd_act (quiet : Bool) (t : Txn) (unitsLeft : List UnitId) (s : State) :
    Act frameWrites s (copyOrEnd quiet t unitsLeft s) := by
  unfold copyOrEnd
  split
  · exact ((count_act _ _ _ s).trans (inFrame_act _ _ _ _)).mono (by decide)
  · exact endTxn_act _ _ _ _ s

theorem endProbe_act (quiet : Bool) (lane : LaneId) (agrees : Bool) (probesLeft : List LaneId) (s : State) :
    Act frameWrites s (endProbe quiet lane agrees probesLeft s) :=
  (act_ite ((changeLane_act _ _ _ s).mono (by decide)) ((changeLane_act _ _ _ s).mono (by decide))).trans
    (runProbes_act _ _ _)

theorem endOrder_act (quiet : Bool) (t : Txn) (agrees : Bool) (unitsLeft : List UnitId) (s : State) :
    Act frameWrites s (endOrder quiet t agrees unitsLeft s) :=
  act_ite ((inFrame_act _ _ _ s).mono (by decide))
    ((((faultLane_act _ _ s).mono (by decide)).trans ((count_act _ _ _ _).mono (by decide))).trans
      (nextAttempt_act _ _ _ _))

theorem endCopy_act (quiet : Bool) (t : Txn) (agrees : Bool) (unitsLeft : List UnitId) (s : State) :
    Act frameWrites s (endCopy quiet t agrees unitsLeft s) :=
  act_ite (endTxn_act _ _ _ _ s)
    ((((faultLane_act _ _ s).mono (by decide)).trans ((count_act _ _ _ _).mono (by decide))).trans
      (endTxn_act _ _ _ _ _))

theorem transmissionEnds_act (lane : LaneId) (heard : Word16) (s : State) :
    Act frameWrites s (transmissionEnds lane heard s) := by
  unfold transmissionEnds
  split
  · exact act_ite (endProbe_act _ _ _ _ s) (.refl _ s)
  · split
    · split
      · exact endOrder_act _ _ _ _ s
      · exact endCopy_act _ _ _ _ s
      · exact .refl _ s
    · exact .refl _ s
  · exact .refl _ s

theorem transmissionCut_act (lane : LaneId) (s : State) : Act frameWrites s (transmissionCut lane s) := by
  unfold transmissionCut
  split
  · exact act_ite (endProbe_act _ _ _ _ s) (.refl _ s)
  · split
    · split
      · exact (((cutLane_act _ s).mono (by decide)).trans ((count_act _ _ _ _).mono (by decide))).trans
          (nextAttempt_act _ _ _ _)
      · exact (((cutLane_act _ s).mono (by decide)).trans ((count_act _ _ _ _).mono (by decide))).trans
          (endTxn_act _ _ _ _ _)
      · exact .refl _ s
    · exact .refl _ s
  · exact .refl _ s

theorem waitEnds_act (s : State) : Act frameWrites s (waitEnds s) := by
  unfold waitEnds
  split
  · split
    · exact ((count_act _ _ _ s).mono (by decide)).trans (nextAttempt_act _ _ _ _)
    · exact .refl _ s
  · exact .refl _ s

/-! ## Reports -/

theorem judgeStatus_act (u : UnitId) (pattern flags : Byte) (s : State) :
    Act { link := true } s (judgeStatus u pattern flags s) :=
  act_ite (.refl _ s) ((setUnit_act _ _ s).trans (push_act _ _ _ _ _))

theorem storeMeasurements_act (u : UnitId) (record : List Byte) (s : State) :
    Act { link := true } s (storeMeasurements u record s) := by
  cases u <;> exact link_act _ s

theorem silentFault_act (t : Txn) (s : State) : Act laneWrites s (silentFault t s) :=
  act_ite (faultLane_act _ _ s) (.refl _ s)

theorem takeIntoRecord_act (u : UnitId) (lane : LaneId) (record : List Byte) (s : State) :
    Act { link := true } s (takeIntoRecord u lane record s) := by
  have stored : Act { link := true } s (if (!isBrief record) = true then storeMeasurements u record s else s) :=
    act_ite (storeMeasurements_act _ _ s) (.refl _ s)
  unfold takeIntoRecord
  exact (stored.trans (setUnit_act u _ _)).trans (count_act u lane _ _)

theorem endLossCause_act (u : UnitId) (s : State) : Act { run := true } s (endLossCause u s) := by
  cases u
  · exact causeEnds_act _ s
  · exact .refl _ s
  · exact causeEnds_act _ s
  · exact .refl _ s

theorem restorationTrigger_act (w : Writes) (u : UnitId) (s : State) : Act w s (restorationTrigger u s) := by
  cases u
  iterate 3 exact trigger_act _ s
  exact .refl _ s

theorem trackReport_act (record : List Byte) (s : State) : Act trackerWrites s (trackReport record s) := by
  unfold trackReport
  split
  · exact .refl _ s
  · split
    · exact takeDistance_act _ s
    · exact .refl _ s

/-- What the readers of a report write. -/
abbrev readerWrites : Writes := { arbiter := true, horizon := true, engine := true }

theorem handReport_act (u : UnitId) (entered : Bool) (record : List Byte) (s : State) :
    Act readerWrites s (handReport u entered record s) := by
  cases u
  · exact ((trackReport_act _ s).mono (by decide)).trans (trigger_act _ _)
  · exact ((engineTakeReport_act _ s).mono (by decide)).trans (trigger_act _ _)
  · exact trigger_act _ s
  · exact (overdrawCheck_act s).mono (by decide)

theorem takeReport_act (u : UnitId) (lane : LaneId) (record : List Byte) (s : State) :
    Act reportWrites s (takeReport u lane record s) := by
  have restored : Act reportWrites s (if (unitRecord s.link u).health = .lost then
      push .unitRestored (unitCode u) (BitVec.ofNat 32 (unitRecord s.link u).missed) s else s) :=
    act_ite (push_act _ _ _ _ s) (.refl _ s)
  have taken := restored.trans ((takeIntoRecord_act u lane record _).mono (by decide))
  unfold takeReport
  dsimp only
  split
  · rename_i h
    rw [if_pos h] at taken
    exact (taken.trans (((endLossCause_act u _).mono (by decide)).trans
      ((handReport_act _ _ _ _).mono (by decide)))).trans (restorationTrigger_act _ _ _)
  · rename_i h
    rw [if_neg h] at taken
    exact taken.trans ((handReport_act _ _ _ _).mono (by decide))

theorem reportJudged_act (quiet : Bool) (t : Txn) (unitsLeft : List UnitId) (record : List Byte) (s : State) :
    Act reportWrites s (reportJudged quiet t unitsLeft record s) := by
  have faulted : Act reportWrites s (silentFault t (judgeStatus t.unit
      (statusPattern (unitRecord s.link t.unit).settings (reportFlags t.unit record)) (reportFlags t.unit record) s)) :=
    ((judgeStatus_act _ _ _ s).mono (by decide)).trans ((silentFault_act _ _).mono (by decide))
  exact act_ite ((faulted.trans ((count_act _ _ _ _).mono (by decide))).trans
      ((nextAttempt_act _ _ _ _).mono (by decide)))
    ((faulted.trans (takeReport_act _ _ _ _)).trans ((copyOrEnd_act _ _ _ _).mono (by decide)))

theorem reportArrives_act (record : List Byte) (s : State) : Act reportWrites s (reportArrives record s) := by
  unfold reportArrives
  split
  · split
    · exact act_ite (act_ite (reportJudged_act _ _ _ _ s)
        (((count_act _ _ _ s).mono (by decide)).trans ((nextAttempt_act _ _ _ _).mono (by decide)))) (.refl _ s)
    · exact .refl _ s
  · exact .refl _ s

/-! ## Solves -/

theorem noteDepletion_act (n : Snapshot) (s : State) : Act { solver := true } s (noteDepletion n s) :=
  act_ite (.refl _ s) (act_ite ((solver_act _ s).trans (push_act _ _ _ _ _)) (solver_act _ s))

theorem pushHoldSet_act (w : Writes) (r : SplitRecord) (before : Holds) (s : State) (name : HoldName) :
    Act w s (pushHoldSet r before s name) := act_ite (pushAt_act _ _ _ _ _ s) (.refl _ s)

theorem publish_act (n : Snapshot) (r : SplitRecord) (s : State) : Act { solver := true } s (publish n r s) := by
  have published : Act { solver := true } s { s with solver := { s.solver with
      record := r, ofThisDrive := true, holds := updateHolds r s.solver.holds, latch := r.chargeLatch } } :=
    solver_act _ s
  exact (act_ite (published.trans (foldl_act (pushHoldSet_act _ _ _) _ _)) published).trans (noteDepletion_act _ _)

theorem repeatOrIdle_act (s : State) : Act {} s (repeatOrIdle s) :=
  ⟨⟨rfl, rfl, rfl, rfl, fun _ => rfl, fun _ => rfl, fun _ => rfl, fun _ => rfl, fun _ => rfl, fun _ => rfl,
    fun _ => rfl, fun _ => rfl, fun _ => rfl, fun _ => rfl, fun _ => rfl⟩, .refl _, id⟩

/-- What a publication writes. -/
abbrev publishWrites : Writes := { solver := true, aux := true, arbiter := true, engine := true }

theorem completeSolve_act (n : Snapshot) (s : State) : Act publishWrites s (completeSolve n s) := by
  unfold completeSolve
  split
  · exact (repeatOrIdle_act s).mono (by decide)
  · exact ((((publish_act n _ s).mono (by decide)).trans ((repeatOrIdle_act _).mono (by decide))).trans
      ((arbiterTake_act _ _).mono (by decide))).trans ((engineTake_act _ _).mono (by decide))

theorem solveCompletes_act (s : State) : Act publishWrites s (solveCompletes s) := by
  unfold solveCompletes
  split
  · exact completeSolve_act _ s
  · exact .refl _ s

/-! ## Requests -/

/-- A request whose payload has its length answers what its act answers. -/
theorem request_done {kind tag : Byte} {length : Nat} {payload : List Byte} {act : State → State × Answer} {s : State}
    (ready : canExecute ⟨kind, tag, payload⟩ s = true) (len : payload.length = length) :
    request kind length tag payload act s =
      endExecution ⟨kind, tag, payload⟩ (act (beginExecution ⟨kind, tag, payload⟩ s)) := by
  simp [request, ready, len]

/-- A request that is not the next to execute changes nothing. -/
theorem request_notReady {kind tag : Byte} {length : Nat} {payload : List Byte} {act : State → State × Answer}
    {s : State} (idle : canExecute ⟨kind, tag, payload⟩ s = false) : request kind length tag payload act s = s := by
  simp [request, idle]

/-- `Ready` is what lets the port begin to execute a request. -/
theorem canExecute_of_ready {kind tag : Byte} {payload : List Byte} {s : State} (h : Ready kind tag payload s) :
    canExecute ⟨kind, tag, payload⟩ s = true := by
  obtain ⟨h1, h2, h3, h4⟩ := h
  simp [canExecute, h1, h2, h3, Config.executionReplyLimit, h4]

/-- A request whose act leaves the port alone, and the rest of the state as that of t: it is answered, and the state is t
but for the port's queues. -/
theorem request_replied {kind tag : Byte} {length : Nat} {payload : List Byte} {act : State → State × Answer}
    {s t : State} {code : ResultCode} {fields : List Byte} (ready : Ready kind tag payload s)
    (defined : kindDefined kind = true) (len : payload.length = length) (kept : t.port = s.port)
    (h : act (beginExecution ⟨kind, tag, payload⟩ s) =
      ({ t with port := (beginExecution ⟨kind, tag, payload⟩ s).port }, ⟨code, fields⟩)) :
    request kind length tag payload act s = replied kind tag (byteOf (resultCode code) :: fields) t := by
  rw [request_done (canExecute_of_ready ready) len, h]
  simp [endExecution, queueReply, replyFrame, replyKind, defined, replied, repliedPort, beginExecution, kept, u8,
    lineTakes_requests]

/-- A refused request changes nothing but the port's queues. -/
theorem request_refused {kind tag : Byte} {length : Nat} {payload : List Byte} {act : State → State × Answer}
    {s : State} {code : ResultCode} (ready : Ready kind tag payload s) (defined : kindDefined kind = true)
    (len : payload.length = length)
    (h : act (beginExecution ⟨kind, tag, payload⟩ s) =
      refusedWith code (beginExecution ⟨kind, tag, payload⟩ s)) :
    request kind length tag payload act s = replied kind tag [byteOf (resultCode code)] s :=
  request_replied ready defined len rfl h

/-- A payload of another length than the kind's is answered RANGE (R177). -/
theorem request_wrongLength {kind tag : Byte} {length : Nat} {payload : List Byte} {act : State → State × Answer}
    {s : State} (ready : Ready kind tag payload s) (defined : kindDefined kind = true)
    (len : payload.length ≠ length) : request kind length tag payload act s = replied kind tag [3#8] s := by
  have done := request_refused (code := .range) (act := refusedWith .range) ready defined rfl rfl
  rw [request_done (canExecute_of_ready ready) rfl] at done
  simp only [request, canExecute_of_ready ready, len, if_true, if_false]
  exact done

/-- What a request with its reply leaves of an act: the groups the act may write, and the stack's law. -/
theorem request_unchanged {w : Writes} {kind tag : Byte} {length : Nat} {payload : List Byte}
    {act : State → State × Answer} {s : State} (h : ∀ s0, Act w s0 (act s0).1) :
    Unchanged w s (request kind length tag payload act s) := by
  unfold request
  dsimp only
  split
  · have begun : Unchanged w s (beginExecution ⟨kind, tag, payload⟩ s) :=
      ⟨rfl, rfl, rfl, rfl, fun _ => rfl, fun _ => rfl, fun _ => rfl, fun _ => rfl, fun _ => rfl, fun _ => rfl,
        fun _ => rfl, fun _ => rfl, fun _ => rfl, fun _ => rfl, fun _ => rfl⟩
    have ended : ∀ r : State × Answer, Unchanged w r.1 (endExecution ⟨kind, tag, payload⟩ r) := fun r =>
      ⟨rfl, rfl, rfl, rfl, fun _ => rfl, fun _ => rfl, fun _ => rfl, fun _ => rfl, fun _ => rfl, fun _ => rfl,
        fun _ => rfl, fun _ => rfl, fun _ => rfl, fun _ => rfl, fun _ => rfl⟩
    split
    · exact (begun.trans (h _).unchanged).trans (ended _)
    · exact begun.trans (ended (refusedWith .range (beginExecution ⟨kind, tag, payload⟩ s)))
  · exact .refl _ s

/-- A request whose act leaves the port but for its notices is answered with the act's answer. -/
theorem request_answered {w : Writes} {kind tag : Byte} {length : Nat} {payload : List Byte}
    {act : State → State × Answer} {s : State} (ready : Ready kind tag payload s) (defined : kindDefined kind = true)
    (len : payload.length = length) (h : ∀ s0, Act w s0 (act s0).1) :
    Answered kind tag
      (u8 (resultCode (act (beginExecution ⟨kind, tag, payload⟩ s)).2.code) ++
        (act (beginExecution ⟨kind, tag, payload⟩ s)).2.fields) s
      (request kind length tag payload act s) := by
  rw [request_done (canExecute_of_ready ready) len]
  have kept := (h (beginExecution ⟨kind, tag, payload⟩ s)).port
  generalize act (beginExecution ⟨kind, tag, payload⟩ s) = r at kept ⊢
  obtain ⟨t, a⟩ := r
  have field : ∀ {α : Type} (f : Port → α), f (withoutNotices t.port) =
      f (withoutNotices (beginExecution ⟨kind, tag, payload⟩ s).port) := fun f => congrArg f kept.1
  have h1 : t.port.receiver = s.port.receiver := field (·.receiver)
  have h2 : t.port.partialFrame = s.port.partialFrame := field (·.partialFrame)
  have h3 : t.port.received = s.port.received.tail := field (·.received)
  have h4 : t.port.replies = s.port.replies := field (·.replies)
  have h6 : t.port.noticeMask = s.port.noticeMask := field (·.noticeMask)
  refine ⟨{ t.port with received := s.port.received, executing := s.port.executing }, ⟨?_, kept.2⟩, ?_⟩
  · simp [withoutNotices, h1, h2, h4, h6]
  · simp [repliedPort, endExecution, queueReply, replyFrame, replyKind, defined, lineTakes_requests, h3]

end Sys2Proof.Safety
end

