-- ==== Sys2Proof/Laws/PerInstr.lean ====
section
/-! SUPPORT. What every well-formed command says of its operands: the limits of a host frame's payload, of an auxiliary
channel's index, and of a record on a lane (R34, R174, R190). -/

namespace Sys2Proof.Laws.OperandLimits

open Sys2Proof

/-- The payload of a request row; the other rows carry none. -/
def payloadOf : Instr → List Byte
  | .holdsTest _ p => p
  | .holdsClear _ p => p
  | .identify _ p => p
  | .run _ p => p
  | .halt _ p => p
  | .limpClear _ p => p
  | .runRead _ p => p
  | .configSet _ p => p
  | .configGet _ p => p
  | .linesRead _ p => p
  | .channelOpen _ p => p
  | .channelClose _ p => p
  | .channelRead _ p => p
  | .demand _ p => p
  | .grantAsk _ p => p
  | .grantConfirm _ p => p
  | .grantRelease _ p => p
  | .grantWithdraw _ p => p
  | .pacingClear _ p => p
  | .arbiterSet _ p => p
  | .planOrganise _ p => p
  | .segmentAdd _ p => p
  | .pageClear _ p => p
  | .pageSwap _ p => p
  | .positionFix _ p => p
  | .horizonRead _ p => p
  | .payloadSet _ p => p
  | .consumptionSet _ p => p
  | .splitRead _ p => p
  | .zoneTableSet _ p => p
  | .engineRead _ p => p
  | .engineRearm _ p => p
  | .unitSet _ p => p
  | .unitRead _ p => p
  | .laneRestore _ p => p
  | .eventsRead _ p => p
  | .noticeMaskSet _ p => p
  | .alertMaskSet _ p => p
  | .undefinedKind _ _ p => p
  | _ => []

/-- The auxiliary channel that a row names. -/
def channelOf : Instr → Option Nat
  | .confirmTimerExpiry ch => some ch
  | .exhaustionExpiry ch => some ch
  | _ => none

/-- The record of a report row. -/
def recordOf : Instr → Option (List Byte)
  | .reportReceived r => some r
  | _ => none

/-- A well-formed command keeps the limits of its operands. -/
def Statement (i : Instr) : Prop :=
  i.wellFormed = true →
    (payloadOf i).length ≤ 200 ∧ (∀ ch ∈ channelOf i, 2 ≤ ch ∧ ch ≤ 11) ∧
      ∀ r ∈ recordOf i, 4 ≤ r.length ∧ r.length ≤ 261

theorem fullReset (straps : Straps) (levels : Levels) : Statement (.fullReset straps levels) := by
  intro _
  exact ⟨by simp [payloadOf], by simp [channelOf], by simp [recordOf]⟩

theorem holdsTest (tag : Byte) (payload : List Byte) : Statement (.holdsTest tag payload) := by
  intro h
  exact ⟨of_decide_eq_true h, by simp [channelOf], by simp [recordOf]⟩

theorem holdsClear (tag : Byte) (payload : List Byte) : Statement (.holdsClear tag payload) := by
  intro h
  exact ⟨of_decide_eq_true h, by simp [channelOf], by simp [recordOf]⟩

theorem identify (tag : Byte) (payload : List Byte) : Statement (.identify tag payload) := by
  intro h
  exact ⟨of_decide_eq_true h, by simp [channelOf], by simp [recordOf]⟩

theorem run (tag : Byte) (payload : List Byte) : Statement (.run tag payload) := by
  intro h
  exact ⟨of_decide_eq_true h, by simp [channelOf], by simp [recordOf]⟩

theorem halt (tag : Byte) (payload : List Byte) : Statement (.halt tag payload) := by
  intro h
  exact ⟨of_decide_eq_true h, by simp [channelOf], by simp [recordOf]⟩

theorem limpClear (tag : Byte) (payload : List Byte) : Statement (.limpClear tag payload) := by
  intro h
  exact ⟨of_decide_eq_true h, by simp [channelOf], by simp [recordOf]⟩

theorem runRead (tag : Byte) (payload : List Byte) : Statement (.runRead tag payload) := by
  intro h
  exact ⟨of_decide_eq_true h, by simp [channelOf], by simp [recordOf]⟩

theorem configSet (tag : Byte) (payload : List Byte) : Statement (.configSet tag payload) := by
  intro h
  exact ⟨of_decide_eq_true h, by simp [channelOf], by simp [recordOf]⟩

theorem configGet (tag : Byte) (payload : List Byte) : Statement (.configGet tag payload) := by
  intro h
  exact ⟨of_decide_eq_true h, by simp [channelOf], by simp [recordOf]⟩

theorem linesRead (tag : Byte) (payload : List Byte) : Statement (.linesRead tag payload) := by
  intro h
  exact ⟨of_decide_eq_true h, by simp [channelOf], by simp [recordOf]⟩

theorem channelOpen (tag : Byte) (payload : List Byte) : Statement (.channelOpen tag payload) := by
  intro h
  exact ⟨of_decide_eq_true h, by simp [channelOf], by simp [recordOf]⟩

theorem channelClose (tag : Byte) (payload : List Byte) : Statement (.channelClose tag payload) := by
  intro h
  exact ⟨of_decide_eq_true h, by simp [channelOf], by simp [recordOf]⟩

theorem channelRead (tag : Byte) (payload : List Byte) : Statement (.channelRead tag payload) := by
  intro h
  exact ⟨of_decide_eq_true h, by simp [channelOf], by simp [recordOf]⟩

theorem demand (tag : Byte) (payload : List Byte) : Statement (.demand tag payload) := by
  intro h
  exact ⟨of_decide_eq_true h, by simp [channelOf], by simp [recordOf]⟩

theorem grantAsk (tag : Byte) (payload : List Byte) : Statement (.grantAsk tag payload) := by
  intro h
  exact ⟨of_decide_eq_true h, by simp [channelOf], by simp [recordOf]⟩

theorem grantConfirm (tag : Byte) (payload : List Byte) : Statement (.grantConfirm tag payload) := by
  intro h
  exact ⟨of_decide_eq_true h, by simp [channelOf], by simp [recordOf]⟩

theorem grantRelease (tag : Byte) (payload : List Byte) : Statement (.grantRelease tag payload) := by
  intro h
  exact ⟨of_decide_eq_true h, by simp [channelOf], by simp [recordOf]⟩

theorem grantWithdraw (tag : Byte) (payload : List Byte) : Statement (.grantWithdraw tag payload) := by
  intro h
  exact ⟨of_decide_eq_true h, by simp [channelOf], by simp [recordOf]⟩

theorem pacingClear (tag : Byte) (payload : List Byte) : Statement (.pacingClear tag payload) := by
  intro h
  exact ⟨of_decide_eq_true h, by simp [channelOf], by simp [recordOf]⟩

theorem arbiterSet (tag : Byte) (payload : List Byte) : Statement (.arbiterSet tag payload) := by
  intro h
  exact ⟨of_decide_eq_true h, by simp [channelOf], by simp [recordOf]⟩

theorem planOrganise (tag : Byte) (payload : List Byte) : Statement (.planOrganise tag payload) := by
  intro h
  exact ⟨of_decide_eq_true h, by simp [channelOf], by simp [recordOf]⟩

theorem segmentAdd (tag : Byte) (payload : List Byte) : Statement (.segmentAdd tag payload) := by
  intro h
  exact ⟨of_decide_eq_true h, by simp [channelOf], by simp [recordOf]⟩

theorem pageClear (tag : Byte) (payload : List Byte) : Statement (.pageClear tag payload) := by
  intro h
  exact ⟨of_decide_eq_true h, by simp [channelOf], by simp [recordOf]⟩

theorem pageSwap (tag : Byte) (payload : List Byte) : Statement (.pageSwap tag payload) := by
  intro h
  exact ⟨of_decide_eq_true h, by simp [channelOf], by simp [recordOf]⟩

theorem positionFix (tag : Byte) (payload : List Byte) : Statement (.positionFix tag payload) := by
  intro h
  exact ⟨of_decide_eq_true h, by simp [channelOf], by simp [recordOf]⟩

theorem horizonRead (tag : Byte) (payload : List Byte) : Statement (.horizonRead tag payload) := by
  intro h
  exact ⟨of_decide_eq_true h, by simp [channelOf], by simp [recordOf]⟩

theorem payloadSet (tag : Byte) (payload : List Byte) : Statement (.payloadSet tag payload) := by
  intro h
  exact ⟨of_decide_eq_true h, by simp [channelOf], by simp [recordOf]⟩

theorem consumptionSet (tag : Byte) (payload : List Byte) : Statement (.consumptionSet tag payload) := by
  intro h
  exact ⟨of_decide_eq_true h, by simp [channelOf], by simp [recordOf]⟩

theorem splitRead (tag : Byte) (payload : List Byte) : Statement (.splitRead tag payload) := by
  intro h
  exact ⟨of_decide_eq_true h, by simp [channelOf], by simp [recordOf]⟩

theorem zoneTableSet (tag : Byte) (payload : List Byte) : Statement (.zoneTableSet tag payload) := by
  intro h
  exact ⟨of_decide_eq_true h, by simp [channelOf], by simp [recordOf]⟩

theorem engineRead (tag : Byte) (payload : List Byte) : Statement (.engineRead tag payload) := by
  intro h
  exact ⟨of_decide_eq_true h, by simp [channelOf], by simp [recordOf]⟩

theorem engineRearm (tag : Byte) (payload : List Byte) : Statement (.engineRearm tag payload) := by
  intro h
  exact ⟨of_decide_eq_true h, by simp [channelOf], by simp [recordOf]⟩

theorem unitSet (tag : Byte) (payload : List Byte) : Statement (.unitSet tag payload) := by
  intro h
  exact ⟨of_decide_eq_true h, by simp [channelOf], by simp [recordOf]⟩

theorem unitRead (tag : Byte) (payload : List Byte) : Statement (.unitRead tag payload) := by
  intro h
  exact ⟨of_decide_eq_true h, by simp [channelOf], by simp [recordOf]⟩

theorem laneRestore (tag : Byte) (payload : List Byte) : Statement (.laneRestore tag payload) := by
  intro h
  exact ⟨of_decide_eq_true h, by simp [channelOf], by simp [recordOf]⟩

theorem eventsRead (tag : Byte) (payload : List Byte) : Statement (.eventsRead tag payload) := by
  intro h
  exact ⟨of_decide_eq_true h, by simp [channelOf], by simp [recordOf]⟩

theorem noticeMaskSet (tag : Byte) (payload : List Byte) : Statement (.noticeMaskSet tag payload) := by
  intro h
  exact ⟨of_decide_eq_true h, by simp [channelOf], by simp [recordOf]⟩

theorem alertMaskSet (tag : Byte) (payload : List Byte) : Statement (.alertMaskSet tag payload) := by
  intro h
  exact ⟨of_decide_eq_true h, by simp [channelOf], by simp [recordOf]⟩

theorem undefinedKind (kind : Byte) (tag : Byte) (payload : List Byte) : Statement (.undefinedKind kind tag payload) := by
  intro h
  rw [Instr.wellFormed, Bool.and_eq_true] at h
  exact ⟨of_decide_eq_true h.2, by simp [channelOf], by simp [recordOf]⟩

theorem hostFrameComplete (lastByte : Byte) : Statement (.hostFrameComplete lastByte) := by
  intro _
  exact ⟨by simp [payloadOf], by simp [channelOf], by simp [recordOf]⟩

theorem frameGap : Statement (.frameGap) := by
  intro _
  exact ⟨by simp [payloadOf], by simp [channelOf], by simp [recordOf]⟩

theorem receiverHuntResume : Statement (.receiverHuntResume) := by
  intro _
  exact ⟨by simp [payloadOf], by simp [channelOf], by simp [recordOf]⟩

theorem hostLineBreak : Statement (.hostLineBreak) := by
  intro _
  exact ⟨by simp [payloadOf], by simp [channelOf], by simp [recordOf]⟩

theorem transmissionStart : Statement (.transmissionStart) := by
  intro _
  exact ⟨by simp [payloadOf], by simp [channelOf], by simp [recordOf]⟩

theorem inputRawChange (line : Line) (level : Bool) : Statement (.inputRawChange line level) := by
  intro _
  exact ⟨by simp [payloadOf], by simp [channelOf], by simp [recordOf]⟩

theorem debounceExpiry (line : Line) : Statement (.debounceExpiry line) := by
  intro _
  exact ⟨by simp [payloadOf], by simp [channelOf], by simp [recordOf]⟩

theorem tractionDemandTimeout : Statement (.tractionDemandTimeout) := by
  intro _
  exact ⟨by simp [payloadOf], by simp [channelOf], by simp [recordOf]⟩

theorem brakeDemandTimeout : Statement (.brakeDemandTimeout) := by
  intro _
  exact ⟨by simp [payloadOf], by simp [channelOf], by simp [recordOf]⟩

theorem confirmTimerExpiry (channel : Nat) : Statement (.confirmTimerExpiry channel) := by
  intro h
  exact ⟨by simp [payloadOf], by simpa [channelOf] using of_decide_eq_true h, by simp [recordOf]⟩

theorem exhaustionExpiry (channel : Nat) : Statement (.exhaustionExpiry channel) := by
  intro h
  exact ⟨by simp [payloadOf], by simpa [channelOf] using of_decide_eq_true h, by simp [recordOf]⟩

theorem solveCompletion : Statement (.solveCompletion) := by
  intro _
  exact ⟨by simp [payloadOf], by simp [channelOf], by simp [recordOf]⟩

theorem crankLimitExpiry : Statement (.crankLimitExpiry) := by
  intro _
  exact ⟨by simp [payloadOf], by simp [channelOf], by simp [recordOf]⟩

theorem restExpiry : Statement (.restExpiry) := by
  intro _
  exact ⟨by simp [payloadOf], by simp [channelOf], by simp [recordOf]⟩

theorem warmLimitExpiry : Statement (.warmLimitExpiry) := by
  intro _
  exact ⟨by simp [payloadOf], by simp [channelOf], by simp [recordOf]⟩

theorem minRunExpiry : Statement (.minRunExpiry) := by
  intro _
  exact ⟨by simp [payloadOf], by simp [channelOf], by simp [recordOf]⟩

theorem stopLimitExpiry : Statement (.stopLimitExpiry) := by
  intro _
  exact ⟨by simp [payloadOf], by simp [channelOf], by simp [recordOf]⟩

theorem frameTimerExpiry : Statement (.frameTimerExpiry) := by
  intro _
  exact ⟨by simp [payloadOf], by simp [channelOf], by simp [recordOf]⟩

theorem linkTransmissionEnd (lane : LaneId) (heard : Word16) : Statement (.linkTransmissionEnd lane heard) := by
  intro _
  exact ⟨by simp [payloadOf], by simp [channelOf], by simp [recordOf]⟩

theorem transmitLimitCutoff (lane : LaneId) : Statement (.transmitLimitCutoff lane) := by
  intro _
  exact ⟨by simp [payloadOf], by simp [channelOf], by simp [recordOf]⟩

theorem reportReceived (record : List Byte) : Statement (.reportReceived record) := by
  intro h
  exact ⟨by simp [payloadOf], by simp [channelOf], by simpa [recordOf] using of_decide_eq_true h⟩

theorem reportWaitExpiry : Statement (.reportWaitExpiry) := by
  intro _
  exact ⟨by simp [payloadOf], by simp [channelOf], by simp [recordOf]⟩

theorem hostByteTaken (byte : Byte) : Statement (.hostByteTaken byte) := by
  intro _
  exact ⟨by simp [payloadOf], by simp [channelOf], by simp [recordOf]⟩

theorem resetNAsserted : Statement (.resetNAsserted) := by
  intro _
  exact ⟨by simp [payloadOf], by simp [channelOf], by simp [recordOf]⟩

end Sys2Proof.Laws.OperandLimits
end

