-- ==== Sys2Proof/Tests/Slice0.lean ====
section
/-! SUPPORT. Tests on small states: the well-formedness check, the spec's worked sequences, and a witness for the
hypotheses of every statement of Sys2Proof/Certificates/Slice0/Obligations.lean. -/

namespace Sys2Proof.Tests

open Sys2Proof Sys2Proof.Machine Sys2Proof.Safety

-- One theorem after another: elaborated at once, their kernel evaluations would each hold a thread until the lemma files'
-- proofs are checked.
set_option Elab.async false

/-! ## Small states -/

/-- A state with one request waiting at the head of the receive queue. -/
def asked (kind : Byte) (payload : List Byte) (s : State) : State :=
  { s with port := { s.port with received := [⟨kind, 7#8, payload⟩] } }

/-- A state in a run state. -/
def inState (r : RunState) (s : State) : State := { s with run := { s.run with state := r } }

/-- A state with a time tag. -/
def atTime (now : TimeTag) (s : State) : State := { s with now := now }

/-- IGN asserted in STANDBY. -/
def parked : State := { State.reset with lines := { State.reset.lines with ign := .sampled true } }

/-- A drive in ACTIVE with frames waiting. -/
def driven : State :=
  { inState .active State.reset with
    link := { State.reset.link with frame := .waiting, timer := some 10#32, periodRead := 10 } }

/-- Channel 2 with a grant, under budgets of 10.0 kW. -/
def granted (g : Grant) (s : State) : State :=
  { setAux 2 ⟨true, .essential, ⟨true, true⟩, 0, 0, g⟩ s with
    arbiter := { s.arbiter with batteryBudget := 100, generationBudget := 100 } }

/-- Channel 2 QUEUED with the only ask. -/
def queuedTwo (s : State) : State :=
  { granted .queued s with arbiter := { s.arbiter with queue := [⟨2, .essential, 30, 0#32⟩] } }

/-- Terms of 3.0 kW from BATTERY. -/
def terms : Terms := ⟨30, .battery, 0#32, 1⟩

def segment (id length : Nat) (zone : Zone) : Segment := ⟨id, length, zone, 0, 0, 0, none, none⟩

/-- A horizon in PAGED, page A active, with the lists given. -/
def routed (a b : List Segment) (s : State) : State :=
  { s with horizon := { s.horizon with pageA := a, pageB := b } }

/-- A horizon in SINGLE with the list given. -/
def routedSingle (l : List Segment) (s : State) : State :=
  { s with horizon := { s.horizon with paged := false, single := l } }

/-- An engine in a state with its state timer. -/
def engineIn (e : EngineState) (timer : Option TimeTag) (s : State) : State :=
  { s with engine := { s.engine with state := e, timer := timer } }

/-- An input whose settling level differs from its level, 5 ms after the change. -/
def settling (line : Line) (level : Bool) (s : State) : State :=
  atTime 5#32 (setInput line ⟨!level, level, 0#32, 0#32⟩ s)

/-- The MIU's transaction of a frame, in a phase. -/
def miuTxn (phase : TxnPhase) : Txn :=
  ⟨.miu, laneRecord 1 1 1#8 [4#8, 0#8, 0#8], 1, .a, phase, ⟨false, true, false, false⟩, ⟨false, false, false, false⟩⟩

/-- A frame in the MIU's transaction. -/
def exchanging (phase : TxnPhase) : State :=
  { driven with link := { driven.link with
    frame := .inFrame ⟨false, .transaction (miuTxn phase), [.eu, .bu, .acu]⟩ } }

/-! ## Well-formedness: an ill-formed command for each check -/

theorem test_payload_of_200_bytes_is_wellFormed :
    (Instr.wellFormed (.identify 0#8 (List.replicate 200 0#8))) = true := by decide +kernel

theorem test_payload_of_201_bytes_is_refused :
    (Instr.wellFormed (.identify 0#8 (List.replicate 201 0#8))) = false := by decide +kernel

theorem test_undefinedKind_of_a_defined_kind_is_refused :
    (Instr.wellFormed (.undefinedKind 0x01#8 0#8 [])) = false ∧ (Instr.wellFormed (.undefinedKind 0x26#8 0#8 [])) = false ∧
      (Instr.wellFormed (.undefinedKind 0x00#8 0#8 [])) = true ∧ (Instr.wellFormed (.undefinedKind 0x27#8 0#8 [])) = true := by
  decide

theorem test_undefinedKind_with_a_long_payload_is_refused :
    (Instr.wellFormed (.undefinedKind 0x27#8 0#8 (List.replicate 201 0#8))) = false := by decide +kernel

theorem test_confirmTimerExpiry_of_no_auxiliary_channel_is_refused :
    (Instr.wellFormed (.confirmTimerExpiry 1)) = false ∧ (Instr.wellFormed (.confirmTimerExpiry 12)) = false ∧
      (Instr.wellFormed (.confirmTimerExpiry 2)) = true ∧ (Instr.wellFormed (.confirmTimerExpiry 11)) = true := by decide

theorem test_exhaustionExpiry_of_no_auxiliary_channel_is_refused :
    (Instr.wellFormed (.exhaustionExpiry 1)) = false ∧ (Instr.wellFormed (.exhaustionExpiry 12)) = false := by decide

theorem test_report_shorter_than_its_head_or_too_long_is_refused :
    (Instr.wellFormed (.reportReceived [1#8, 2#8, 0#8])) = false ∧
      (Instr.wellFormed (.reportReceived (List.replicate 262 0#8))) = false ∧
      (Instr.wellFormed (.reportReceived (List.replicate 261 0#8))) = true := by decide +kernel

/-- No word spells a command: the table gives its rows no bits. -/
theorem test_no_word_spells_a_command : decodeTableWord 8 0x1B = none ∧ State.withFetchWord State.reset 8 1 = State.reset :=
  ⟨rfl, rfl⟩

/-! ## Bytes, rounding and the CRC -/

/-- The check value of the CRC's usual test text, "123456789". -/
theorem test_crc16_of_the_nine_digits :
    crc16 [0x31#8, 0x32#8, 0x33#8, 0x34#8, 0x35#8, 0x36#8, 0x37#8, 0x38#8, 0x39#8] = 0x29B1#16 := by decide +kernel

/-- The table of R3. -/
theorem test_rounding_table_of_R3 :
    (Exact.mk 152784 1000).round = 153 ∧ (Exact.mk 245 10).round = 25 ∧ (Exact.mk (-245) 10).round = -25 ∧
      (Exact.mk 209446 1000).round = 209 ∧ (Exact.mk 5 10).round = 1 ∧ (Exact.mk (-5) 10).round = -1 ∧
      (Exact.mk 12995 10).round = 1300 := by decide +kernel

/-- A time tag below an expiry across the wrap of the time counter. -/
theorem test_below_across_the_wrap :
    below 0xFFFFFFFE#32 1#32 = true ∧ below 1#32 1#32 = false ∧ below 2#32 1#32 = false ∧
      below 0#32 0x80000000#32 = false ∧ below 0#32 0x7FFFFFFF#32 = true := by decide

/-! ## Worked sequences of the split solve (06_the_split_solve.md, 01_quantities_conditions_and_holds.md) -/

/-- The snapshot of "selecting and apportioning". -/
def climb : Snapshot where
  tag := 0#32
  runState := .active
  context := ⟨0, .openZone, false, 200, false, none, false⟩
  traction := some 360
  brake := some 0
  svc := false
  shaftSpeed := some 1800
  motoring := some 400
  generating := some 360
  engineSpeed := some 1800
  available := some 400
  soc := some 550
  discharge := some 600
  chargeLimit := some 400
  engine := .running
  batterySum := 300
  generationSum := 0
  latch := false
  table := .default
  fitMode := .saturate
  trapping := false
  warmCap := 60
  engineBaseTorque := 240
  chargePower := 120
  parkedChargePower := 80
  limpCap := 300

theorem test_selecting_and_apportioning :
    ((solveRecord climb).mode, (solveRecord climb).engineTorque, (solveRecord climb).mgTorque,
      (solveRecord climb).tractionDelivered) = (.assist, 240, 120, 360) ∧
    ((solveRecord climb).batteryPower, (solveRecord climb).batteryBudget, (solveRecord climb).generationBudget,
      (solveRecord climb).clutch, (solveRecord climb).conditions) =
      (413, 487, 151, .closed, ⟨false, false, false, false⟩) := by decide +kernel

/-- The same with the engine in HOLDING falls back by R108. -/
theorem test_fall_back_while_the_engine_is_holding :
    let r := solveRecord { climb with engine := .holding }
    (r.mode, r.engineWanted, r.engineTorque, r.mgTorque, r.generationBudget) = (.assist, true, 0, 360, 0) := by
  decide +kernel

/-- "Charging at a crawl": CHARGE_TORQUE at 1500, 250 and 230 rpm. -/
def crawl (rpm : Int) : Snapshot :=
  { climb with latch := true, soc := some 150, shaftSpeed := some rpm, engineSpeed := some rpm, traction := some 200 }

theorem test_charging_at_a_crawl :
    ((solveRecord (crawl 1500)).mode, (solveRecord (crawl 1500)).conditions) =
      (.charge, ⟨false, false, false, false⟩) ∧
    ((solveRecord (crawl 250)).mode, (solveRecord (crawl 250)).conditions) =
      (.charge, ⟨true, false, true, false⟩) := by decide +kernel

/-- "The two fit modes". -/
def fitted (m : FitMode) : Snapshot :=
  { climb with fitMode := m, traction := some 500, available := some 300, motoring := some 200 }

theorem test_two_fit_modes :
    ((solveRecord (fitted .saturate)).engineTorque, (solveRecord (fitted .saturate)).mgTorque,
      (solveRecord (fitted .saturate)).tractionDelivered, (solveRecord (fitted .saturate)).conditions.overflow) =
      (240, 200, 440, true) ∧
    ((solveRecord (fitted .proportional)).engineTorque, (solveRecord (fitted .proportional)).mgTorque,
      (solveRecord (fitted .proportional)).tractionDelivered,
      (solveRecord (fitted .proportional)).conditions.overflow) = (185, 200, 385, true) := by decide +kernel

/-- "A lost motor inverter". -/
theorem test_lost_motor_inverter :
    let r := solveRecord { climb with
      runState := .limp, traction := some 120, shaftSpeed := none, motoring := none, generating := none }
    (r.mode, r.mgTorque, r.conditions) = (.limp, 0, ⟨false, true, false, true⟩) := by decide +kernel

/-- "Depletion in a zero-emission run": at the floor the traction taken is three quarters of what is asked. -/
theorem test_depletion_in_a_zero_emission_run :
    let n := { climb with
      context := ⟨230, .zeroEmission, false, 250, false, none, false⟩, traction := some 400, soc := some 250
      batterySum := 0 }
    (depletion n, (solveRecord n).tractionAsked, (solveRecord n).tractionDelivered, (solveRecord n).chargeLatch,
      (solveRecord n).mode, (solveRecord n).engineWanted) = (true, 400, 300, true, .ev, false) := by decide +kernel

/-! ## Worked sequences of the route horizon (05_the_route_horizon.md) -/

/-- The route of "computing the reserve". -/
def route : List Segment :=
  [⟨210, 1800, .openZone, 0, 2, 0, none, none⟩, ⟨220, 2500, .lowEmission, 1, 4, 1, none, none⟩,
    ⟨230, 3000, .zeroEmission, 2, 12, 6, some 250, none⟩, ⟨240, 1500, .zeroEmission, -1, 5, 3, none, none⟩,
    ⟨250, 2000, .lowEmission, 0, 3, 1, none, none⟩]

def onRoute (drop distance cls : Nat) : Horizon :=
  { (routed (route.drop drop) [] State.reset).horizon with distance := distance, payloadClass := cls }

theorem test_computing_the_reserve :
    (reserveOf (onRoute 0 600 2), runDistanceOf (onRoute 0 600 2), contextOf .default (onRoute 0 600 2)) =
      (2774, some 3700, ⟨210, .openZone, false, 200, true, some 454, false⟩) ∧
    (reserveOf (onRoute 2 850 2), runDistanceOf (onRoute 2 850 2), contextOf .default (onRoute 2 850 2)) =
      (2310, some 0, ⟨230, .zeroEmission, false, 250, false, some 428, false⟩) ∧
    (reserveOf (onRoute 0 600 4), contextOf .default (onRoute 0 600 4)) =
      (3233, ⟨210, .openZone, false, 200, true, some 480, false⟩) ∧
    (contextOf { Items.default with batteryCapacity := 5000 } (onRoute 0 600 4)).target = some 947 := by decide +kernel

/-- "A boundary with a pending swap". -/
def boundary : State :=
  let s := routed [segment 310 120 .lowEmission, segment 320 40 .lowEmission, segment 330 700 .lowEmission]
    [segment 400 30 .quiet, segment 410 900 .openZone] (atTime 400000#32 driven)
  { s with horizon := { s.horizon with
    swapPending := true, distance := 100, context := { s.horizon.context with segmentId := 310 } } }

theorem test_boundary_with_a_pending_swap :
    let t := takeDistance 604 boundary
    (t.horizon.pageA, t.horizon.pageB.map (·.id), t.horizon.activeA, t.horizon.distance, t.horizon.carry,
      t.horizon.swapPending, t.horizon.context.zone) = ([], [410], false, 10, 4, false, .openZone) ∧
    t.stack.entries = [⟨400000#32, .segmentDone, 310#16, 0#32⟩, ⟨400000#32, .swapDone, 1#16, 0x01000002#32⟩,
      ⟨400000#32, .segmentDone, 400#16, 0#32⟩, ⟨400000#32, .zoneEntry, 0#16, 410#32⟩] := by decide +kernel

/-- "Running out". -/
theorem test_running_out :
    let s := routedSingle [segment 77 900 .zeroEmission] driven
    let t := takeDistance 300 { s with horizon := { s.horizon with
      distance := 880, context := { s.horizon.context with segmentId := 77, zone := .zeroEmission } } }
    (t.horizon.single, t.horizon.distance, t.horizon.context.zone) = ([], 0, .lowEmission) ∧
    t.stack.entries = [⟨0#32, .segmentDone, 77#16, 0#32⟩, ⟨0#32, .horizonEmpty, 2#16, 0#32⟩,
      ⟨0#32, .zoneEntry, 1#16, 0#32⟩] := by decide +kernel

/-! ## Worked sequences of the grants (04_power_grants.md) -/

/-- The queue of "one queue, two modes". -/
def oneQueue (m : ArbiterMode) : State :=
  let s := setAux 3 ⟨true, .essential, ⟨true, false⟩, 0, 0, .held ⟨40, .battery, 0, 0⟩ 0#32 none⟩ driven
  let s := setAux 5 ⟨true, .deferrable, ⟨true, false⟩, 0, 0, .queued⟩ s
  let s := setAux 4 ⟨true, .essential, ⟨true, false⟩, 0, 0, .queued⟩ s
  let s := setAux 6 ⟨true, .deferrable, ⟨true, false⟩, 0, 0, .queued⟩ s
  let s := setAux 7 ⟨true, .essential, ⟨true, true⟩, 0, 0, .queued⟩ s
  { s with arbiter := { s.arbiter with
    mode := m, batteryBudget := 200
    queue := [⟨5, .deferrable, 30, 1#32⟩, ⟨4, .essential, 180, 2#32⟩, ⟨6, .deferrable, 25, 3#32⟩,
      ⟨7, .essential, 50, 4#32⟩] } }

theorem test_one_queue_two_modes :
    (pass (oneQueue .fixed)).arbiter.queue.map (·.channel) = [5, 4, 6, 7] ∧
    ((pass (oneQueue .weighted)).arbiter.queue.map (·.channel), (pass (oneQueue .weighted)).arbiter.pointer) =
      ([4, 7], 3) ∧
    (pass (oneQueue .weighted)).stack.entries = [⟨0#32, .grantOffered, 5#16, 0x001E0000#32⟩,
      ⟨0#32, .grantOffered, 6#16, 0x00190000#32⟩] := by decide +kernel

/-- "Pacing a cab heater": 146.667 Wh are reported as 147 Wh, and the two exhaustion expiries. -/
theorem test_pacing_a_cab_heater :
    exhaustionAt 700000#32 200 80 24 = some 880000#32 ∧ exhaustionAt 800000#32 200 0 24 = some 1100000#32 ∧
      usedAt 800000#32 ⟨true, .deferrable, ⟨true, false⟩, 200, 80, .held ⟨24, .battery, 0#32, 0⟩ 700000#32 none⟩ =
        147 := by decide +kernel

/-! ## Witnesses: states and operands that meet the hypotheses of each statement -/

theorem test_witness_StepRunsTheFrontCommand :
    ({ State.reset with pending := [.frameGap, .hostLineBreak] } : State).pending = .frameGap :: [.hostLineBreak] := rfl

theorem test_witness_IdleStepsAndResetHeldLow :
    State.reset.pending = [] ∧ ({ State.reset with resetHeld := true } : State).resetHeld = true ∧
      (∀ straps levels, Instr.frameGap ≠ .fullReset straps levels) ∧ Instr.frameGap ≠ .resetNAsserted :=
  ⟨rfl, rfl, (by intro _ _ h; cases h), by decide⟩

theorem test_witness_RequestsThatAreNotNextOrNotWellFormed :
    (⟨0x01, 0, .identify⟩ : RequestRow) ∈ requestRows ∧
    State.reset.port.received.head? ≠ some ⟨0x01#8, 7#8, []⟩ ∧
    ({ State.reset.port with executing := some ⟨0x01#8, 7#8, []⟩ } : Port).executing ≠ none ∧
    3 ≤ (List.replicate 3 (⟨0x81#8, 7#8, [0#8]⟩ : Frame)).length ∧
    Ready 0x01#8 7#8 [0#8] (asked 0x01#8 [0#8] State.reset) ∧ [0#8].length ≠ 0 ∧
    Ready 0x00#8 7#8 [] (asked 0x00#8 [] State.reset) ∧
    Ready 0x27#8 7#8 [] (asked 0x27#8 [] State.reset) ∧ 0x26 < (0x27#8).toNat := by
  refine ⟨by simp [requestRows], by decide, by decide, by decide, ?_, by decide, ?_, ?_, by decide⟩ <;>
    (unfold Ready; decide)

theorem test_witness_HoldsAreTestedAndCleared :
    (∀ name ∈ holdNames, Ready 0x1C#8 7#8 [byteOf (holdCode name)] (asked 0x1C#8 [byteOf (holdCode name)] State.reset)) ∧
    Ready 0x1C#8 7#8 [4#8] (asked 0x1C#8 [4#8] State.reset) ∧ 3 < (4#8).toNat ∧
    Ready 0x1D#8 7#8 [15#8] (asked 0x1D#8 [15#8] State.reset) ∧ (15#8).toNat < 16 ∧
    Ready 0x1D#8 7#8 [16#8] (asked 0x1D#8 [16#8] State.reset) ∧ 16 ≤ (16#8).toNat := by
  unfold Ready; decide

theorem test_witness_IdentifyAndConfigGetReply :
    Ready 0x01#8 7#8 [] (asked 0x01#8 [] State.reset) ∧
    Ready 0x07#8 7#8 [0x26#8] (asked 0x07#8 [0x26#8] State.reset) ∧ itemOf (0x26#8).toNat = some .parkedChargePower ∧
    Ready 0x07#8 7#8 [0x27#8] (asked 0x07#8 [0x27#8] State.reset) ∧ itemOf (0x27#8).toNat = none ∧
    itemOf (0x00#8).toNat = none ∧ itemOf (0x01#8).toNat = some .fitMode := by
  unfold Ready; decide

theorem test_witness_RunReadAndLinesReadReply :
    Ready 0x05#8 7#8 [] (asked 0x05#8 [] State.reset) ∧ Ready 0x08#8 7#8 [] (asked 0x08#8 [] driven) := by
  unfold Ready; decide

/-- An item of no code; a STANDBY-ONLY one in ACTIVE; a Tracker's, a Solver's and an unchanged LIVE one, at the bounds. -/
theorem test_witness_ConfigSetChecksAndSetsOneItem :
    Ready 0x06#8 7#8 [0x0B#8, 0#8, 0#8, 0#8, 50#8] (asked 0x06#8 [0x0B#8, 0#8, 0#8, 0#8, 50#8] driven) ∧
    itemOf (0x27#8).toNat = none ∧ itemOf (0x0B#8).toNat = some .demandTimeout ∧
    itemStandbyOnly .demandTimeout = true ∧ driven.run.state ≠ .standby ∧
    itemOf (0x10#8).toNat = some .chargeMargin ∧ itemStandbyOnly .chargeMargin = false ∧
    itemInRange .chargeMargin (word32 0#8 0#8 0#8 201#8).toInt = false ∧
    itemInRange .chargeMargin (word32 0#8 0#8 0#8 200#8).toInt = true ∧
    itemInRange .chargeMargin (word32 255#8 255#8 255#8 255#8).toInt = false ∧
    itemInRange .framePeriod (word32 0#8 0#8 0#8 15#8).toInt = false ∧
    (word32 0#8 0#8 0#8 200#8).toNat ≠ itemGet driven.items .chargeMargin ∧ trackerItem .chargeMargin = true ∧
    itemInRange .fitMode (word32 0#8 0#8 0#8 1#8).toInt = true ∧
    (word32 0#8 0#8 0#8 1#8).toNat ≠ itemGet driven.items .fitMode ∧ solverItem .fitMode = true ∧
    trackerItem .fitMode = false ∧ (word32 0#8 0#8 0#8 0#8).toNat = itemGet driven.items .fitMode := by
  unfold Ready; decide

theorem test_witness_ConfigSetChecksAndSetsOneItem_of_the_table :
    itemRows.length = 38 ∧ itemOf 0 = none ∧ itemOf 0x27 = none ∧ itemOf 0x1F = some .framePeriod ∧
    itemInRange .framePeriod 40 = true ∧ itemInRange .framePeriod 30 = false ∧ itemInRange .restTime 199 = false ∧
    itemStandbyOnly .lossLimit = true ∧ itemGet Items.default .lightOff = 350 := by decide

theorem test_witness_RunStartsADrive :
    Ready 0x02#8 7#8 [] (asked 0x02#8 [] parked) ∧ parked.run.state = .standby ∧ parked.lines.ign.level = true ∧
    parked.lines.svc.level = false ∧ parked.lines.plug.level = false ∧ GrantLaw (asked 0x02#8 [] parked) ∧
    Ready 0x02#8 7#8 [] (asked 0x02#8 [] driven) ∧ ¬ driven.run.state = .standby ∧
    State.reset.lines.ign.level = false := by
  unfold Ready GrantLaw shutDown; decide +kernel

theorem test_witness_HaltEndsTheDrive :
    Ready 0x03#8 7#8 [] (asked 0x03#8 [] driven) ∧ driven.run.state = .active ∧
    Ready 0x03#8 7#8 [] (asked 0x03#8 [] (inState .limp driven)) ∧
    Ready 0x03#8 7#8 [] (asked 0x03#8 [] State.reset) ∧ State.reset.run.state = .standby ∧
    Ready 0x03#8 7#8 [] (asked 0x03#8 [] (inState .winddown driven)) := by
  unfold Ready; decide

theorem test_witness_LimpClearReturnsToActive :
    Ready 0x04#8 7#8 [] (asked 0x04#8 [] (inState .limp driven)) ∧ (inState .limp driven).run.state = .limp ∧
    (inState .limp driven).run.causes = LimpCauses.empty ∧ (inState .limp driven).arbiter.queue = [] ∧
    Ready 0x04#8 7#8 [] (asked 0x04#8 [] driven) ∧ ¬ driven.run.state = .limp := by
  unfold Ready; decide

/-- Indices 12, 1 and 11; an open channel; a class, a pool set and an allowance just outside and just inside. -/
theorem test_witness_ChannelOpenOpensAnAuxiliaryChannel :
    Ready 0x09#8 7#8 [12#8, 0#8, 1#8, 0#8, 0#8] (asked 0x09#8 [12#8, 0#8, 1#8, 0#8, 0#8] State.reset) ∧
    11 < (12#8).toNat ∧ (1#8).toNat < 2 ∧ (auxAt (granted .none driven) 2).isOpen = true ∧
    (auxAt State.reset 2).isOpen = false ∧ (auxAt State.reset 11).isOpen = false ∧
    1 < (2#8).toNat ∧ (0#8).toNat = 0 ∧ 3 < (4#8).toNat ∧ 20000 < (word16 0x4E#8 0x21#8).toNat ∧
    Ready 0x09#8 7#8 [11#8, 1#8, 3#8, 0x4E#8, 0x20#8] (asked 0x09#8 [11#8, 1#8, 3#8, 0x4E#8, 0x20#8] State.reset) ∧
    (word16 0x4E#8 0x20#8).toNat ≤ 20000 := by
  unfold Ready; decide

/-- A HELD, a QUEUED and a closed channel. -/
theorem test_witness_ChannelCloseEndsTheGrantAndCloses :
    GrantLaw (asked 0x0A#8 [2#8] (granted (.held terms 0#32 none) driven)) ∧
    Ready 0x0A#8 7#8 [2#8] (asked 0x0A#8 [2#8] (granted (.held terms 0#32 none) driven)) ∧
    (auxAt (granted (.held terms 0#32 none) driven) 2).isOpen = true ∧
    isGranted (auxAt (granted (.held terms 0#32 none) driven) 2) = true ∧
    GrantLaw (asked 0x0A#8 [2#8] (queuedTwo driven)) ∧ isGranted (auxAt (queuedTwo driven) 2) = false ∧
    (auxAt driven 11).isOpen = false := by
  unfold Ready GrantLaw shutDown; decide +kernel

theorem test_witness_ChannelsHorizonEngineAndUnitsAreRead_of_channels :
    (∀ ch ∈ [0#8, 1#8, 2#8, 11#8, 12#8], Ready 0x0B#8 7#8 [ch] (asked 0x0B#8 [ch] driven)) ∧ 11 < (12#8).toNat ∧
    2 ≤ (2#8).toNat ∧ (11#8).toNat ≤ 11 := by
  unfold Ready; decide

/-- Channel 2; STANDBY; values just outside and at the bounds, on both channels; a lost channel 0. -/
theorem test_witness_DemandRefreshesAChannel :
    Ready 0x0C#8 7#8 [2#8, 0#8, 0#8] (asked 0x0C#8 [2#8, 0#8, 0#8] driven) ∧ 1 < (2#8).toNat ∧
    Ready 0x0C#8 7#8 [0#8, 0#8, 0#8] (asked 0x0C#8 [0#8, 0#8, 0#8] State.reset) ∧ State.reset.run.state = .standby ∧
    Ready 0x0C#8 7#8 [0#8, 0x04#8, 0xB1#8] (asked 0x0C#8 [0#8, 0x04#8, 0xB1#8] driven) ∧
    1200 < (word16 0x04#8 0xB1#8).toInt ∧ (word16 0xFF#8 0xFF#8).toInt < 0 ∧
    Ready 0x0C#8 7#8 [0#8, 0x04#8, 0xB0#8] (asked 0x0C#8 [0#8, 0x04#8, 0xB0#8]
      { driven with demand := { driven.demand with lost := true } }) ∧ (word16 0x04#8 0xB0#8).toInt ≤ 1200 ∧
    Ready 0x0C#8 7#8 [1#8, 0x03#8, 0x20#8] (asked 0x0C#8 [1#8, 0x03#8, 0x20#8] driven) ∧
    (word16 0x03#8 0x20#8).toInt ≤ 800 ∧ 800 < (word16 0x03#8 0x21#8).toInt := by
  unfold Ready; decide

theorem test_witness_DemandAndGrantTimersExpire_of_demands :
    driven.resetHeld = false ∧ expired 49#32 (some 50#32) = false ∧ expired 50#32 (some 50#32) = true ∧
    driven.run.state = .active ∧ driven.arbiter.queue = [] ∧ (∀ c ∈ driven.aux, isGranted c = false) ∧
    State.reset.run.state ≠ .active ∧ expired 0#32 driven.demand.traction.timer = false := by decide

/-- Channel 2 QUEUED with the only ask, of a power. -/
def crowded (power : Nat) : State :=
  { granted .queued driven with arbiter := { driven.arbiter with
    batteryBudget := 100, generationBudget := 100, queue := [⟨2, .essential, power, 0#32⟩] } }

/-- Every check of GRANT_ASK, and an ask that passes them. -/
theorem test_witness_GrantAskQueuesAndArbitrates :
    GrantLaw (asked 0x0D#8 [2#8, 0#8, 1#8] (granted .none driven)) ∧
    Ready 0x0D#8 7#8 [2#8, 0#8, 1#8] (asked 0x0D#8 [2#8, 0#8, 1#8] (granted .none driven)) ∧
    askCheck 2 1 (granted .none driven) = none ∧ askCheck 2 300 (granted .none driven) = none ∧
    askCheck 12 1 driven = some 3#8 ∧ askCheck 2 0 driven = some 3#8 ∧ askCheck 2 301 driven = some 3#8 ∧
    askCheck 2 1 driven = some 6#8 ∧ askCheck 2 1 (granted .none State.reset) = some 2#8 ∧
    askCheck 2 1 (queuedTwo driven) = some 7#8 ∧
    askCheck 2 1 (setAux 2 ⟨true, .essential, ⟨true, true⟩, 10, 10, .none⟩ driven) = some 9#8 ∧
    askCheck 2 1 { granted .none driven with arbiter := { driven.arbiter with
      queue := List.replicate 16 ⟨3, .essential, 1, 0#32⟩ } } = some 5#8 := by
  unfold Ready GrantLaw shutDown; decide +kernel

/-- An ask over an empty queue that fits GENERATION, one that fits no pool and stays QUEUED at the tail, and one behind an
older ask. -/
theorem test_witness_GrantAskQueuesAndArbitrates_granted_and_queued :
    TakesPool ⟨2, .essential, 1, 0#32⟩ .generation (granted .none driven) ∧
    (∀ pool, ¬ FitsPool ⟨2, .essential, 300, 0#32⟩ pool (granted .none driven)) ∧
    (∃ t, exec (.grantAsk 7#8 [2#8, 1#8, 0x2C#8]) (asked 0x0D#8 [2#8, 1#8, 0x2C#8] (granted .none driven)) = .next t ∧
      t.arbiter.queue = [] ++ [⟨2, .essential, 300, 0#32⟩] ∧ (auxAt t 2).grant = .queued) ∧
    askCheck 3 300 (setAux 3 ⟨true, .essential, ⟨true, true⟩, 0, 0, .none⟩ (crowded 300)) = none ∧
    GrantLaw (setAux 3 ⟨true, .essential, ⟨true, true⟩, 0, 0, .none⟩ (crowded 300)) ∧
    List.Sublist [⟨2, .essential, 300, 0#32⟩] (crowded 300).arbiter.queue := by
  refine ⟨⟨by unfold FitsPool; decide, by intro h; cases h⟩, ?_, ⟨_, rfl, by decide +kernel, by decide +kernel⟩,
    by decide +kernel, by unfold GrantLaw shutDown; decide +kernel, List.Sublist.refl _⟩
  intro pool; cases pool <;> (unfold FitsPool; decide)

theorem test_witness_GrantConfirmHoldsAnOffer :
    (∀ g ∈ [Grant.none, .queued, .offered terms 500#32, .held terms 0#32 none],
      Ready 0x0E#8 7#8 [2#8] (asked 0x0E#8 [2#8] (granted g driven)) ∧ (auxAt (granted g driven) 2).isOpen = true ∧
        (auxAt (granted g driven) 2).grant = g) ∧
    Ready 0x0E#8 7#8 [12#8] (asked 0x0E#8 [12#8] driven) ∧ 11 < (12#8).toNat ∧ (1#8).toNat < 2 ∧
    (auxAt driven 2).isOpen = false ∧ (auxAt driven 11).isOpen = false := by
  unfold Ready; decide

theorem test_witness_GrantReleaseEndsAGrant :
    GrantLaw (asked 0x0F#8 [2#8] (granted (.offered terms 500#32) driven)) ∧
    Ready 0x0F#8 7#8 [2#8] (asked 0x0F#8 [2#8] (granted (.offered terms 500#32) driven)) ∧
    isGranted (auxAt (granted (.offered terms 500#32) driven) 2) = true ∧
    (granted (.offered terms 500#32) driven).arbiter.queue = [] ∧
    (auxAt (granted .none driven) 2).grant = .none ∧ (auxAt (queuedTwo driven) 2).grant = .queued ∧
    GrantLaw (asked 0x0F#8 [2#8] (queuedTwo driven)) ∧ (auxAt driven 11).isOpen = false := by
  unfold Ready GrantLaw shutDown; decide +kernel

theorem test_witness_AsksPacingAndTheArbiterAreSet_of_asks_and_pacing :
    Ready 0x10#8 7#8 [2#8] (asked 0x10#8 [2#8] (queuedTwo driven)) ∧
    (auxAt (queuedTwo driven) 2).isOpen = true ∧ (auxAt (queuedTwo driven) 2).grant = .queued ∧
    (queuedTwo driven).arbiter.queue = [] ++ (⟨2, .essential, 30, 0#32⟩ : Ask) :: [] ∧
    (∀ a ∈ ([] ++ [] : List Ask), a.channel ≠ 2) ∧ (auxAt (granted .none driven) 2).grant ≠ .queued ∧
    Ready 0x11#8 7#8 [2#8] (asked 0x11#8 [2#8] (granted (.held terms 0#32 none) driven)) ∧
    (auxAt (granted (.held terms 0#32 none) driven) 2).grant = .held terms 0#32 none ∧
    (auxAt driven 2).isOpen = false ∧ 11 < (12#8).toNat ∧ (1#8).toNat < 2 := by
  unfold Ready; decide

theorem test_witness_AsksPacingAndTheArbiterAreSet_of_a_grant_that_is_not_held :
    (auxAt (granted .none driven) 2).isOpen = true ∧
      ∀ terms confirmTime exhaustAt, (auxAt (granted .none driven) 2).grant ≠ .held terms confirmTime exhaustAt :=
  ⟨by decide, by intro _ _ _ h; cases h⟩

theorem test_witness_AsksPacingAndTheArbiterAreSet_of_the_arbiter :
    (∀ p ∈ [[3#8, 0#8, 0#8], [0#8, 2#8, 0#8], [2#8, 0#8, 5#8], [2#8, 1#8, 5#8], [1#8, 0#8, 5#8]],
      Ready 0x12#8 7#8 p (asked 0x12#8 p driven)) ∧ 2 < (3#8).toNat ∧ 1 < (2#8).toNat ∧ driven.arbiter.queue = [] := by
  unfold Ready; decide

theorem test_witness_DemandAndGrantTimersExpire_of_grants :
    GrantLaw (granted (.offered terms 500#32) driven) ∧ GrantLaw (granted (.held terms 0#32 (some 9#32)) driven) ∧
    driven.resetHeld = false ∧ below 499#32 500#32 = true ∧ below 500#32 500#32 = false ∧
    expired 8#32 (some 9#32) = false ∧ expired 9#32 (some 9#32) = true ∧ expired 9#32 none = false ∧
    (auxAt (granted (.offered terms 500#32) driven) 2).grant = .offered terms 500#32 ∧
    (auxAt (granted (.held terms 0#32 (some 9#32)) driven) 2).grant = .held terms 0#32 (some 9#32) ∧
    (granted (.offered terms 500#32) driven).arbiter.queue = [] := by
  unfold GrantLaw shutDown; decide +kernel

/-- A result halfway between two steps; a HELD grant; draws at the limit, above it, and none. -/
theorem test_witness_EnergyIsAccountedAndOverdrawReported :
    0 < (Exact.mk 1 2).den ∧ 2 * ((Exact.mk 1 2).round * 2 - 1).natAbs = 2 ∧ 0 < 24 ∧ 0 < 200 ∧
    (⟨true, .essential, ⟨true, true⟩, 0, 0, .held terms 0#32 none⟩ : AuxChannel).grant = .held terms 0#32 none ∧
    driven.link.acuDraw = none ∧ (10 : Int) ≤ Int.ofNat (heldSum driven.aux) + 10 ∧
    Int.ofNat (heldSum driven.aux) + 10 < (11 : Int) ∧ driven.arbiter.overdrawTripped = false := by decide +kernel

/-- A head that GENERATION takes in FIXED; in WEIGHTED the head of the other class, the pointer's own fitting no pool. -/
theorem test_witness_PassesGrantTheHeads :
    GrantLaw (crowded 30) ∧ (queuedTwo driven).arbiter.mode = .fixed ∧
    choose (crowded 30) = some (⟨2, .essential, 30, 0#32⟩, .generation) ∧
    GrantLaw (oneQueue .weighted) ∧ (oneQueue .weighted).arbiter.mode = .weighted ∧
    choose (oneQueue .weighted) = some (⟨5, .deferrable, 30, 1#32⟩, .battery) ∧
    choose (oneQueue .fixed) = none ∧
    IsHead ⟨4, .essential, 180, 2#32⟩ (oneQueue .fixed) ∧ IsHead ⟨5, .deferrable, 30, 1#32⟩ (oneQueue .fixed) ∧
    ¬ FitsPool ⟨4, .essential, 180, 2#32⟩ .battery (oneQueue .fixed) := by
  refine ⟨by unfold GrantLaw shutDown; decide +kernel, by decide, by decide +kernel,
    by unfold GrantLaw shutDown; decide +kernel, by decide, by decide +kernel, by decide +kernel,
    ⟨[⟨5, .deferrable, 30, 1#32⟩], [⟨6, .deferrable, 25, 3#32⟩, ⟨7, .essential, 50, 4#32⟩], rfl, by decide⟩,
    ⟨[], [⟨4, .essential, 180, 2#32⟩, ⟨6, .deferrable, 25, 3#32⟩, ⟨7, .essential, 50, 4#32⟩], rfl, by decide⟩,
    by unfold FitsPool; decide +kernel⟩

/-- Acts of the Arbiter over a queue that is not empty: their one pass grants the ask that waits. -/
def waiting (g : Grant) : State :=
  let s := setAux 3 ⟨true, .essential, ⟨true, false⟩, 0, 0, .queued⟩ (granted g driven)
  { s with now := 500#32, arbiter := { s.arbiter with batteryBudget := 60, queue := [⟨3, .essential, 40, 0#32⟩] } }

theorem test_witness_one_pass_over_a_queue_that_is_not_empty :
    GrantLaw (waiting (.offered terms 500#32)) ∧ (waiting (.offered terms 500#32)).arbiter.queue ≠ [] ∧
    (∃ t, exec (.confirmTimerExpiry 2) (waiting (.offered terms 500#32)) = .next t ∧ t.arbiter.queue = [] ∧
      grantCode (auxAt t 3).grant = 2 ∧ t.stack.entries.map (·.kind) = [.grantExpired, .grantOffered]) ∧
    (∃ t, exec (.exhaustionExpiry 2) (waiting (.held terms 0#32 (some 400#32))) = .next t ∧
      t.stack.entries.map (·.kind) = [.grantExhausted, .grantOffered]) ∧
    (∃ t, exec (.grantRelease 7#8 [2#8]) (asked 0x0F#8 [2#8] (waiting (.held terms 0#32 none))) = .next t ∧
      t.arbiter.queue = [] ∧ t.stack.entries.map (·.kind) = [.grantOffered]) ∧
    (∃ t, exec (.channelClose 7#8 [2#8]) (asked 0x0A#8 [2#8] (waiting (.held terms 0#32 none))) = .next t ∧
      t.arbiter.queue = [] ∧ t.stack.entries.map (·.kind) = [.grantOffered]) ∧
    (∃ t, exec (.limpClear 7#8 []) (asked 0x04#8 [] (inState .limp (waiting .none))) = .next t ∧
      t.arbiter.queue = [] ∧ t.stack.entries.map (·.kind) = [.runState, .grantOffered]) := by
  refine ⟨by unfold GrantLaw shutDown; decide +kernel, by decide, ⟨_, rfl, by decide +kernel, by decide +kernel,
    by decide +kernel⟩, ⟨_, rfl, by decide +kernel⟩, ⟨_, rfl, by decide +kernel, by decide +kernel⟩,
    ⟨_, rfl, by decide +kernel, by decide +kernel⟩, ⟨_, rfl, by decide +kernel, by decide +kernel⟩⟩

/-- A deferrable offer and a deferrable ask beside an essential grant, SVC about to be asserted in ACTIVE. -/
def lightened : State :=
  let s := setAux 4 ⟨true, .deferrable, ⟨true, false⟩, 0, 0, .queued⟩ (settling .svc true driven)
  let s := setAux 3 ⟨true, .essential, ⟨true, false⟩, 0, 0, .held ⟨40, .battery, 0, 0⟩ 0#32 none⟩ s
  let s := setAux 2 ⟨true, .deferrable, ⟨true, false⟩, 0, 0, .offered terms 500#32⟩ s
  { s with arbiter := { s.arbiter with batteryBudget := 100, queue := [⟨4, .deferrable, 60, 0#32⟩] } }

/-- Entry to LIMP: a grant of the shut out class is revoked and its ask removed; the essential grant stays. -/
theorem test_witness_PassesGrantTheHeads_at_entry_to_limp :
    GrantLaw lightened ∧ lightened.run.state = .active ∧
    ∃ t, exec (.debounceExpiry .svc) lightened = .next t ∧ t.run.state = .limp ∧
      t.aux = (arbiterLimp lightened).aux ∧ (auxAt t 2).grant = .none ∧ (auxAt t 4).grant = .none ∧
      grantCode (auxAt t 3).grant = 3 ∧ t.arbiter.queue = [] ∧
      (t.stack.entries.filter fun e => decide (e.kind = .grantRevoked)) =
        [⟨5#32, .grantRevoked, 2#16, 0x01020000#32⟩, ⟨5#32, .grantRevoked, 4#16, 0x01010000#32⟩] :=
  ⟨by unfold GrantLaw shutDown; decide +kernel, rfl, _, rfl, by decide +kernel, by decide +kernel, by decide +kernel,
    by decide +kernel, by decide +kernel, by decide +kernel, by decide +kernel⟩

theorem test_witness_SegmentRecordsAreReadAsLaidOut :
    SegmentInRange ⟨1, 10, .openZone, -3, 0, 0, some 50, none⟩ ∧
    SegmentInRange ⟨65535, 20000, .quiet, 3, 60, 60, some 900, some true⟩ ∧
    segmentOf [0#8, 1#8, 0#8, 10#8, 0#8, 0#8, 0#8, 0#8, 0#8, 9#8, 9#8, 9#8] = some (segment 1 10 .openZone) := by
  unfold SegmentInRange; decide

theorem test_witness_PlanOrganiseEmptiesTheHorizon :
    Ready 0x13#8 7#8 [1#8] (asked 0x13#8 [1#8] (routed [segment 1 10 .quiet] [] State.reset)) ∧
    activeList (routed [segment 1 10 .quiet] [] State.reset).horizon ≠ [] ∧
    Ready 0x13#8 7#8 [2#8] (asked 0x13#8 [2#8] State.reset) ∧ 1 < (2#8).toNat ∧ State.reset.run.state = .standby ∧
    Ready 0x13#8 7#8 [1#8] (asked 0x13#8 [1#8] driven) ∧ driven.run.state ≠ .standby := by
  unfold Ready; decide

/-- A record out of range; an id that does not rise; a record that joins the standby page, the pending page and the one
list; a full page and a full list. -/
theorem test_witness_SegmentsPagesAndThePositionAreSet_of_segments :
    (segmentBytes (segment 2 10 .quiet)).length = 12 ∧
    Ready 0x14#8 7#8 (segmentBytes (segment 2 10 .quiet)) (asked 0x14#8 (segmentBytes (segment 2 10 .quiet)) driven) ∧
    segmentOf (segmentBytes (segment 2 9 .quiet)) = none ∧
    segmentOf (segmentBytes (segment 2 10 .quiet)) = some (segment 2 10 .quiet) ∧
    (listNamed (routed [] [segment 2 10 .quiet] driven).horizon
      (loadingName (routed [] [segment 2 10 .quiet] driven).horizon)).getLast? = some (segment 2 10 .quiet) ∧
    driven.horizon.paged = true ∧ driven.horizon.swapPending = false ∧
    (listNamed driven.horizon (loadingName driven.horizon)).length < 64 ∧
    (routedSingle [] driven).horizon.paged = false ∧
    64 ≤ (List.replicate 64 (segment 2 10 .quiet)).length ∧ 128 ≤ (List.replicate 128 (segment 2 10 .quiet)).length := by
  unfold Ready; decide +kernel

/-- A store with a swap pending. -/
def swapping : State :=
  let s := routed [segment 1 10 .quiet] [segment 2 10 .quiet] driven
  { s with horizon := { s.horizon with swapPending := true } }

theorem test_witness_SegmentsPagesAndThePositionAreSet_of_pages :
    Ready 0x15#8 7#8 [] (asked 0x15#8 [] driven) ∧ driven.horizon.paged = true ∧ driven.horizon.swapPending = false ∧
    Ready 0x15#8 7#8 [] (asked 0x15#8 [] swapping) ∧ swapping.horizon.swapPending = true ∧
    Ready 0x15#8 7#8 [] (asked 0x15#8 [] (routedSingle [segment 1 10 .quiet] driven)) ∧
    (∀ form ∈ [0#8, 1#8, 2#8], Ready 0x16#8 7#8 [form] (asked 0x16#8 [form] swapping)) ∧ 1 < (2#8).toNat ∧
    (routedSingle [] driven).horizon.paged = false ∧ standbyList driven.horizon = [] ∧
    standbyList swapping.horizon ≠ [] ∧ activeList swapping.horizon ≠ [] ∧
    activeList (routed [] [segment 2 10 .quiet] driven).horizon = [] ∧
    (routed [segment 1 10 .quiet] [segment 2 10 .quiet] driven).horizon.swapPending = false := by
  unfold Ready; decide

theorem test_witness_SegmentsPagesAndThePositionAreSet_of_the_position :
    (∀ p ∈ [[0#8, 0#8, 0#8, 0#8], [0#8, 3#8, 0#8, 0#8], [0#8, 2#8, 0#8, 10#8], [0#8, 2#8, 0#8, 9#8]],
      Ready 0x17#8 7#8 p (asked 0x17#8 p (routed [segment 1 10 .quiet, segment 2 10 .quiet] [] driven))) ∧
    word16 0#8 2#8 ≠ 0#16 ∧
    activeList (routed [segment 1 10 .quiet, segment 2 10 .quiet] [] driven).horizon =
      [segment 1 10 .quiet] ++ segment 2 10 .quiet :: [] ∧
    (∀ g ∈ [segment 1 10 .quiet, segment 2 10 .quiet], g.id ≠ (word16 0#8 3#8).toNat) ∧
    (segment 2 10 .quiet).id = (word16 0#8 2#8).toNat ∧ (∀ x ∈ [segment 1 10 .quiet], x.id ≠ 2) ∧
    (segment 2 10 .quiet).length ≤ (word16 0#8 10#8).toNat ∧ (word16 0#8 9#8).toNat < (segment 2 10 .quiet).length := by
  unfold Ready; decide

/-- No list; less than a metre; two heads completed by one report; a list that runs out; and a pending swap whose new list
is reached, or runs out too. -/
theorem test_witness_ReportedDistanceMovesThePosition :
    let two := routed [segment 1 10 .quiet, segment 2 10 .quiet, segment 3 10 .quiet] [] driven
    activeList driven.horizon = [] ∧
    activeList two.horizon = [segment 1 10 .quiet, segment 2 10 .quiet] ++ segment 3 10 .quiet :: [] ∧
    two.horizon.swapPending = false ∧ (0 * 10 + 0 + 9) / 10 = two.horizon.distance ∧
    ([segment 1 10 .quiet, segment 2 10 .quiet].map (·.length)).sum ≤ (0 * 10 + 0 + 205) / 10 ∧
    (0 * 10 + 0 + 205) / 10 < ([segment 1 10 .quiet, segment 2 10 .quiet].map (·.length)).sum + 10 ∧
    ((activeList two.horizon).map (·.length)).sum ≤ (0 * 10 + 0 + 300) / 10 ∧
    boundary.horizon.swapPending = true ∧
    activeList boundary.horizon = segment 310 120 .lowEmission ::
      [segment 320 40 .lowEmission, segment 330 700 .lowEmission] ∧
    standbyList boundary.horizon = [segment 400 30 .quiet] ++ segment 410 900 .openZone :: [] ∧
    120 + ([segment 400 30 .quiet].map (·.length)).sum ≤ (100 * 10 + 0 + 604) / 10 ∧
    (100 * 10 + 0 + 604) / 10 < 120 + ([segment 400 30 .quiet].map (·.length)).sum + 900 ∧
    120 + ((standbyList boundary.horizon).map (·.length)).sum ≤ (100 * 10 + 0 + 9500) / 10 := by decide

/-- A report that moves the position inside the head while a swap is pending. -/
theorem test_witness_ReportedDistanceMovesThePosition_inside_the_head_with_a_swap_pending :
    boundary.horizon.swapPending = true ∧
    activeList boundary.horizon =
      segment 310 120 .lowEmission :: [segment 320 40 .lowEmission, segment 330 700 .lowEmission] ∧
    (100 * 10 + 0 + 105) / 10 < 120 ∧ (100 * 10 + 0 + 105) / 10 ≠ boundary.horizon.distance ∧
    (takeDistance 105 boundary).horizon.distance = 110 ∧ (takeDistance 105 boundary).horizon.carry = 5 ∧
    (takeDistance 105 boundary).horizon.swapPending = true := by decide +kernel

theorem test_witness_ReportedDistance_horizon_laws :
    HorizonLaw boundary ∧
      HorizonLaw (routed [segment 1 10 .quiet, segment 2 10 .quiet, segment 3 10 .quiet] [] driven) ∧
      HorizonLaw driven := by
  refine ⟨⟨?_, ?_, ?_, by decide, by decide, by decide, ?_, by decide, by decide, by decide⟩,
    ⟨?_, ?_, ?_, by decide, by decide, by decide, ?_, by decide, by decide, by decide⟩,
    ⟨?_, ?_, ?_, by decide, by decide, by decide, ?_, by decide, by decide, by decide⟩⟩
  all_goals first
    | (unfold ListLaw; decide)
    | (intro g h; cases h; done)
    | (intro g h; cases h; decide)

theorem test_witness_ChannelsHorizonEngineAndUnitsAreRead_of_the_horizon :
    (∀ p ∈ [[3#8, 0#8], [2#8, 1#8], [0#8, 65#8], [0#8, 2#8], [0#8, 0#8], [0#8, 1#8]],
      Ready 0x18#8 7#8 p (asked 0x18#8 p (routed [segment 1 10 .quiet] [] driven))) ∧
    2 < (3#8).toNat ∧ listCode .single = (2#8).toNat ∧ decide (ListName.single = .single) = driven.horizon.paged ∧
    listCode .pageA = (0#8).toNat ∧ 64 < (65#8).toNat ∧ decide (ListName.pageA = .single) ≠ driven.horizon.paged ∧
    (listNamed (routed [segment 1 10 .quiet] [] driven).horizon .pageA).length < (2#8).toNat ∧
    listNamed (routed [segment 1 10 .quiet] [] driven).horizon .pageA = [] ++ segment 1 10 .quiet :: [] ∧
    (1#8).toNat = ([] : List Segment).length + 1 := by
  unfold Ready; decide

/-- The nine entries of the consumption table, the first at the value given. -/
def consumptionBytes (first : Nat) : List Byte :=
  u16 first ++ (List.replicate 6 (u16 2000)).flatten ++ u16 500 ++ u16 500

theorem test_witness_PayloadAndConsumptionAreSet :
    (∀ c ∈ [0#8, 4#8, 5#8], Ready 0x19#8 7#8 [c] (asked 0x19#8 [c] driven)) ∧ 4 < (5#8).toNat ∧
    (0#8).toNat = driven.horizon.payloadClass ∧ (4#8).toNat ≠ driven.horizon.payloadClass ∧
    (consumptionBytes 2000).length = 18 ∧
    Ready 0x1A#8 7#8 (consumptionBytes 2000) (asked 0x1A#8 (consumptionBytes 2000) State.reset) ∧
    Ready 0x1A#8 7#8 (consumptionBytes 2001) (asked 0x1A#8 (consumptionBytes 2001) State.reset) ∧
    2000 < nat16 (consumptionBytes 2001) (2 * 0) ∧ (∀ i, i < 7 → nat16 (consumptionBytes 2000) (2 * i) ≤ 2000) ∧
    nat16 (consumptionBytes 2000) 14 ≤ 500 ∧ nat16 (consumptionBytes 2000) 16 ≤ 500 := by
  unfold Ready; decide +kernel

/-- A run behind two segments, one at the head, none, and an empty list. -/
theorem test_witness_PayloadAndConsumptionAreSet_of_the_reserve :
    sequenceAhead (onRoute 0 600 2) = route.take 2 ++
      ⟨230, 3000, .zeroEmission, 2, 12, 6, some 250, none⟩ :: ([⟨240, 1500, .zeroEmission, -1, 5, 3, none, none⟩] ++
        [⟨250, 2000, .lowEmission, 0, 3, 1, none, none⟩]) ∧
    (∀ g ∈ route.take 2, g.zone ≠ .zeroEmission) ∧
    min 65000 (runEnergy (onRoute 0 600 2) (route.take 2) ⟨230, 3000, .zeroEmission, 2, 12, 6, some 250, none⟩
      [⟨240, 1500, .zeroEmission, -1, 5, 3, none, none⟩]).sum = 2774 ∧
    distanceAhead (onRoute 0 600 2) (route.take 2) = 3700 ∧
    sequenceAhead (onRoute 2 850 2) = [] ++ ⟨230, 3000, .zeroEmission, 2, 12, 6, some 250, none⟩ ::
      (onRoute 3 0 2).pageA ∧
    (∀ g ∈ sequenceAhead (onRoute 4 0 0), g.zone ≠ .zeroEmission) ∧ listAhead State.reset.horizon = [] ∧
    (sequenceAhead boundary.horizon).map (·.id) = [310, 400, 410] := by decide +kernel

theorem test_witness_TheRecordIsReadAndItsSerialRises :
    Ready 0x1B#8 7#8 [] (asked 0x1B#8 [] driven) ∧ (∀ straps levels, Instr.frameGap ≠ .fullReset straps levels) ∧
      ∃ t, exec .frameGap driven = .next t :=
  ⟨by unfold Ready; decide, by (intro _ _ h; cases h), ⟨_, rfl⟩⟩

theorem test_witness_ZoneTableSetReplacesARow :
    (∀ p ∈ [[4#8, 1#8], [0#8, 64#8], [0#8, 0#8], [2#8, 3#8], [2#8, 0x11#8], [3#8, 0x3F#8], [3#8, 0x13#8]],
      Ready 0x1E#8 7#8 p (asked 0x1E#8 p State.reset)) ∧ State.reset.run.state = .standby ∧ driven.run.state ≠ .standby ∧
    zoneCode .quiet = (3#8).toNat ∧ (0x3F#8).toNat < 64 ∧ (0x3F#8).getLsbD 0 = true ∧
    zoneCode .zeroEmission = (2#8).toNat ∧
    ((0x11#8).getLsbD 1 || (0x11#8).getLsbD 2 || (0x11#8).getLsbD 3 || (0x11#8).getLsbD 5) = false ∧
    modesOf 0x3F#8 ≠ tableRow State.reset.solver.table .quiet ∧
    modesOf 0x13#8 = tableRow State.reset.solver.table .quiet := by
  unfold Ready; decide

/-- A state with a solve in flight. -/
def solving (n : Snapshot) (s : State) : State := { s with solver := { s.solver with solve := some n } }

theorem test_witness_SolveCompletionPublishesOrDiscards :
    driven.resetHeld = false ∧ driven.solver.solve = none ∧ (solving climb driven).solver.solve = some climb ∧
    driven.run.state ≠ .standby ∧ climb.runState ≠ .standby ∧ State.reset.run.state = .standby := by decide

/-- Grants over the battery budget that the record of `climb` leaves under a lower discharge limit, in every place of the
order of revocation. -/
def overdrawn : State :=
  let s := setAux 2 ⟨true, .essential, ⟨true, false⟩, 0, 0, .held ⟨100, .battery, 0, 1⟩ 0#32 none⟩
    (solving { climb with discharge := some 350 } driven)
  let s := setAux 3 ⟨true, .essential, ⟨true, false⟩, 0, 0, .offered ⟨110, .battery, 0, 2⟩ 500#32⟩ s
  let s := setAux 4 ⟨true, .deferrable, ⟨true, false⟩, 0, 0, .held ⟨120, .battery, 0, 3⟩ 0#32 none⟩ s
  let s := setAux 5 ⟨true, .deferrable, ⟨true, false⟩, 0, 0, .offered ⟨130, .battery, 0, 4⟩ 500#32⟩ s
  let s := setAux 6 ⟨true, .deferrable, ⟨true, false⟩, 0, 0, .offered ⟨140, .battery, 0, 5⟩ 500#32⟩ s
  { engineIn .barred none s with arbiter := { s.arbiter with batteryBudget := 600 } }

/-- The revocation stops as soon as the granted sum fits the budget of the record. -/
theorem test_witness_SolveCompletionPublishesOrDiscards_of_revocation :
    GrantLaw overdrawn ∧ overdrawn.resetHeld = false ∧ overdrawn.solver.solve = some { climb with discharge := some 350 } ∧
    overdrawn.arbiter.queue = [] ∧
    InRevocationOrder (fromPool .battery) [6, 5, 4, 3, 2] overdrawn ∧
    ∃ t, exec .solveCompletion overdrawn = .next t ∧ grantedSum t.aux .battery ≤ t.arbiter.batteryBudget ∧
      t.arbiter.batteryBudget < grantedSum t.aux .battery + 120 ∧
      (t.stack.entries.map fun e => (e.kind, e.subject)) =
        [(.grantRevoked, 6#16), (.grantRevoked, 5#16), (.grantRevoked, 4#16)] := by
  refine ⟨by unfold GrantLaw shutDown; decide +kernel, rfl, rfl, rfl, ⟨by decide, ?_, ?_⟩, _, rfl, by decide +kernel,
    by decide +kernel, by decide +kernel⟩
  · intro ch
    constructor
    · revert ch; decide +kernel
    · rintro ⟨h2, h11, h⟩
      interval_cases ch <;> revert h <;> decide +kernel
  · unfold RevokedFirst; decide +kernel

theorem test_witness_RecordsKeepToModesAndRanges :
    climb.available = some 400 ∧ climb.motoring = some 400 ∧ climb.generating = some 360 ∧ climb.soc = some 550 ∧
    (solveRecord climb).mode = .assist ∧ (solveRecord climb).engineTorque ≠ 0 ∧
    climb.context.chargeAhead = false ∧ climb.context.floor + 10 ≤ 550 := by decide +kernel

/-- The third test of R105, with and without charge-ahead: the latch held stands. -/
theorem test_witness_RecordsKeepToModesAndRanges_of_the_latch_held :
    let near := fun latch ahead => { climb with
      soc := some 205, latch := latch
      context := { climb.context with chargeAhead := ahead, target := some 205 } }
    (∀ ahead ∈ [false, true], (near true ahead).context.floor < 205 ∧ 205 < (near true ahead).context.floor + 10) ∧
    (∀ ahead ∈ [false, true], ∀ latch ∈ [false, true], (solveRecord (near latch ahead)).chargeLatch = latch) := by
  decide +kernel

/-- A snapshot with a brake, one of a parked van, and one that fails the EV test in a zone without ASSIST. -/
def braked : Snapshot := { climb with traction := some 0, brake := some 100 }

def idling (rpm : Int) : Snapshot :=
  { climb with
    context := ⟨0, .openZone, true, 200, false, none, false⟩, traction := some 0, shaftSpeed := some 0
    engineSpeed := some rpm, soc := some 150 }

def engineOnly : Snapshot :=
  { climb with
    motoring := some 0
    table := { ZoneTable.default with openZone := ⟨true, false, true, true, true, true⟩ } }

theorem test_witness_SolvesSelectTheMode :
    (solveRecord braked).mode = .regen ∧ 0 < brakeUsed braked ∧ tractionUsed braked = 0 ∧
    (solveRecord (idling 1500)).mode = .parkedCharge ∧ (solveRecord (idling 1500)).chargeLatch = true ∧
    (solveRecord (crawl 1500)).mode = .charge ∧ (solveRecord climb).mode = .assist ∧
    (solveRecord engineOnly).mode = .engineOnly ∧
    (solveRecord { climb with runState := .limp }).mode = .limp ∧
    (solveRecord { climb with runState := .winddown }).mode = .ev := by decide +kernel

theorem test_witness_SolvesSelectTheMode_ev_test :
    EvTestMet { climb with traction := some 10 } ∧ ¬ EvTestMet climb ∧
    (solveRecord { climb with traction := some 10 }).mode = .ev := by
  refine ⟨⟨400, 1800, 600, rfl, rfl, rfl, by decide +kernel, by decide +kernel⟩, ?_, by decide +kernel⟩
  rintro ⟨m, v, d, hm, hv, hd, _, h⟩
  cases hm; cases hv; cases hd
  revert h; decide +kernel

theorem test_witness_SolvesApportionTheTorques :
    ((solveRecord { climb with traction := some 10 }).mode = .ev ∧
      ¬ EnginePerformed { climb with traction := some 10 }) ∧
    (solveRecord braked).mode = .regen ∧
    ((solveRecord engineOnly).mode = .engineOnly ∧ EngineAvailable engineOnly) ∧
    (EnginePerformed climb ∧ WantedPair climb (solveRecord climb).mode 240 120 ∧ climb.fitMode = .saturate) ∧
    (EnginePerformed (fitted .proportional) ∧
      WantedPair (fitted .proportional) (solveRecord (fitted .proportional)).mode 240 260 ∧
      (fitted .proportional).available = some 300 ∧ (fitted .proportional).motoring = some 200 ∧
      (fitted .proportional).generating = some 360) ∧
    WantedPair (crawl 1500) (solveRecord (crawl 1500)).mode
      (200 + chargeUsed 120 (some 1500)) (-chargeUsed 120 (some 1500)) ∧
    WantedPair (idling 1500) (solveRecord (idling 1500)).mode
      (chargeUsed 80 (some 1500)) (-chargeUsed 80 (some 1500)) := by
  unfold WantedPair EnginePerformed EngineAvailable; decide +kernel

/-- An INVALID bound on either share in PROPORTIONAL, and wanted pairs that cross each bound of the MG. -/
theorem test_witness_SolvesApportionTheTorques_invalid_and_crossed_bounds :
    (let n := { fitted .proportional with available := none }
     EnginePerformed n ∧ WantedPair n (solveRecord n).mode 240 260) ∧
    (let n := { fitted .proportional with motoring := none }
     EnginePerformed n ∧ WantedPair n (solveRecord n).mode 240 260) ∧
    (WantedPair (fitted .saturate) (solveRecord (fitted .saturate)).mode 240 260 ∧
      (fitted .saturate).motoring = some 200) ∧
    (let n := { crawl 1500 with generating := some 10 }
     EnginePerformed n ∧ WantedPair n (solveRecord n).mode
       (200 + chargeUsed 120 (some 1500)) (-chargeUsed 120 (some 1500)) ∧ -chargeUsed 120 (some 1500) < -10) := by
  unfold WantedPair EnginePerformed EngineAvailable; decide +kernel

/-- A negative available torque bounds the engine's share at 0 (R8). -/
theorem test_negative_available_torque_gives_no_engine_torque :
    (solveRecord { climb with available := some (-10) }).engineTorque = 0 ∧
      (solveRecord { climb with available := some (-10) }).conditions.overflow = true := by decide +kernel

theorem test_witness_SolvesBudgetThePoolsAndRaiseConditions :
    climb.discharge = some 600 ∧ climb.chargeLimit = some 400 ∧ climb.shaftSpeed = some 1800 ∧ MgPerformed climb ∧
    (climb.engine = .running ∧ (solveRecord climb).clutch = .closed ∧ climb.available = some 400 ∧
      climb.engineSpeed = some 1800) ∧
    ({ climb with discharge := none } : Snapshot).discharge = none ∧
    (solveRecord { climb with engine := .holding }).generationBudget = 0 ∧
    (solveRecord (crawl 250)).conditions.divideCheck = true ∧ (crawl 250).trapping = false ∧
    (solveRecord (idling 250)).conditions.divideCheck = true ∧
    (solveRecord { braked with shaftSpeed := some 250 }).conditions.divideCheck = true ∧
    (solveRecord { climb with discharge := none }).conditions.invalid = true := by
  unfold MgPerformed EngineAvailable; decide +kernel

/-- A scaled pair, shares taken alone above and below their bounds, and a power above its bound. -/
theorem test_witness_SolvesBudgetThePoolsAndRaiseConditions_of_the_range_checks :
    (ScaledPair (fitted .proportional) ∧ LimitsAreMagnitudes (fitted .proportional) ∧
      wantedEngine (fitted .proportional) = 240 ∧ wantedMg (fitted .proportional) = 260 ∧
      (fitted .proportional).available = some 300 ∧ (fitted .proportional).motoring = some 200) ∧
    (¬ ScaledPair (fitted .saturate) ∧ (fitted .saturate).fitMode = .saturate ∧
      ∃ x ∈ shareChecks (fitted .saturate), x.Over) ∧
    (¬ ScaledPair { crawl 1500 with generating := some 10 } ∧
      ∃ x ∈ shareChecks { crawl 1500 with generating := some 10 }, x.Under) ∧
    (∃ x ∈ powerChecks { climb with discharge := some 10 }, x.Over) ∧
    (∃ x ∈ torqueChecks { braked with generating := some (-1) }, x.Over) := by
  unfold ScaledPair LimitsAreMagnitudes MgPerformed EnginePerformed EngineAvailable RangeCheck.Under RangeCheck.Over
  decide +kernel

/-- Negative limits that put the lower bound above the upper one: one condition, whichever bound the wanted share crosses
(log 12). -/
theorem test_crossed_limits_raise_one_condition :
    (fitShares .proportional 0 10 (some 100) (some 0) (some (-10))).2 = ⟨10, ⟨true, false, false, false⟩⟩ ∧
    (fitShares .proportional 0 (-10) (some 100) (some 0) (some (-10))).2 = ⟨0, ⟨true, false, false, false⟩⟩ ∧
    (fitShares .saturate 0 5 (some 100) (some 0) (some (-10))).2 = ⟨0, ⟨true, false, false, false⟩⟩ := by
  decide +kernel

/-- A port whose line is free while a notice is held. -/
def noticed (s : State) : State :=
  { s with port := { s.port with notice := some (runEntry 0#32 1#16 .empty), transmitting := none, replies := [] } }

/-- Of two entries pushed in one act on a free line the first is sent and the second held; on a busy line the second
replaces the first (R180). -/
theorem test_two_pushes_on_a_free_and_a_busy_line :
    let s := { driven with port := { driven.port with notice := none, transmitting := none, replies := [] } }
    let busy := { s with port := { s.port with transmitting := some ⟨0x81#8, 7#8, [0#8]⟩ } }
    let two := fun x => push .lineEdge 1 0#32 (push .lineEdge 0 0#32 x)
    ((two s).port.transmitting, (two s).port.notice) =
      (some ⟨0xFF#8, 0#8, entryBytes ⟨0#32, .lineEdge, 0#16, 0#32⟩⟩, some ⟨0#32, .lineEdge, 1#16, 0#32⟩) ∧
    ((two busy).port.transmitting, (two busy).port.notice) =
      (some ⟨0x81#8, 7#8, [0#8]⟩, some ⟨0#32, .lineEdge, 1#16, 0#32⟩) := by decide +kernel

theorem test_witness_PushesJoinTheStack_on_a_free_line :
    (noticed driven).port.notice = some (runEntry 0#32 1#16 .empty) ∧ (noticed driven).port.transmitting = none ∧
    (noticed driven).port.replies = [] ∧ inMask (noticed driven).port.noticeMask .lineEdge = true ∧
    (noticed driven).stack.entries.length < 128 := by decide

theorem test_witness_PushesJoinTheStack :
    (∀ n ∈ [0, 62, 64, 127], (List.replicate n (runEntry 0#32 1#16 .empty)).length < 128 ∧
      (List.replicate n (runEntry 0#32 1#16 .empty)).length ≠ 63) ∧
    (List.replicate 63 (runEntry 0#32 1#16 .empty)).length = 63 ∧
    (List.replicate 128 (runEntry 0#32 1#16 .empty)).length = 128 := by decide +kernel

/-- A stack of so many entries on a free line, with the notice slot given. -/
def filled (n : Nat) (notice : Option Entry) : State :=
  { driven with
    stack := { driven.stack with entries := List.replicate n (runEntry 3#32 1#16 .empty) }
    port := { driven.port with notice := notice, transmitting := none, replies := [] } }

/-- The push that makes 64 entries, on a free line: the slot's notice is sent, or the first of the two where there is none. -/
theorem test_witness_PushesJoinTheStack_at_63_and_128_entries :
    let held := runEntry 1#32 2#16 .empty
    let pushed := ⟨0#32, .lineEdge, 1#16, 0#32⟩
    inMask driven.port.noticeMask .stackHalf = true ∧
    (push .lineEdge 1 0#32 (filled 63 none)).port.transmitting = some (noticeFrame pushed) ∧
    (push .lineEdge 1 0#32 (filled 63 (some held))).port.transmitting = some (noticeFrame held) ∧
    (push .lineEdge 1 0#32 (filled 63 none)).port.notice = some ⟨0#32, .stackHalf, 0#16, 3#32⟩ ∧
    (push .lineEdge 1 0#32 (filled 128 (some held))).port.transmitting = some (noticeFrame held) ∧
    (push .lineEdge 1 0#32 (filled 128 (some held))).port.notice = some pushed := by decide +kernel

theorem test_witness_ChannelsHorizonEngineAndUnitsAreRead_of_engine_and_units :
    Ready 0x1F#8 7#8 [] (asked 0x1F#8 [] (engineIn .cranking (some 9#32) driven)) ∧
    (∀ a ∈ [0#8, 1#8, 4#8, 5#8], Ready 0x22#8 7#8 [a] (asked 0x22#8 [a] driven)) ∧ 4 < (5#8).toNat ∧
    unitCode .miu = (1#8).toNat ∧ unitCode .acu = (4#8).toNat ∧
    (∀ e ∈ [EngineState.cranking, .warming, .running, .holding, .off, .stopping], (engineIn e none driven).engine.state = e) ∧
    ({ driven.solver with ofThisDrive := true } : Solver).ofThisDrive = true := by
  unfold Ready; decide

/-- A BARRED engine whose EU is PRESENT. -/
def barred : State :=
  let s := engineIn .barred none driven
  { s with link := { s.link with eu := { s.link.eu with health := .present } } }

/-- An engine in a state that owns the state timer, at its expiry. -/
def atExpiry (e : EngineState) (attempt : Nat) : State :=
  let s := atTime 900#32 (engineIn e (some 900#32) driven)
  { s with engine := { s.engine with attempt := attempt, minRun := some 900#32 } }

theorem test_witness_EngineIsRearmedCrankedAndRested_of_rearming_and_cranking :
    Ready 0x20#8 7#8 [] (asked 0x20#8 [] barred) ∧ barred.engine.state = .barred ∧
    barred.link.eu.health = .present ∧ barred.link.eu.flags.getLsbD 5 = false ∧
    Ready 0x20#8 7#8 [] (asked 0x20#8 [] driven) ∧ ¬ driven.engine.state = .barred ∧
    (atExpiry .cranking 1).resetHeld = false ∧
    expired (atExpiry .cranking 1).now (atExpiry .cranking 1).engine.timer = true ∧
    (atExpiry .cranking 1).engine.attempt ≤ 1 ∧ (atExpiry .cranking 2).engine.attempt = 2 ∧
    (atExpiry .cranking 2).items.retry2 = .off ∧ expired 899#32 (some 900#32) = false := by
  unfold Ready; decide

/-- A second attempt that the rest leads to, with both units PRESENT; its default path PRIMARY is available. -/
def rested (wanted : Bool) : State :=
  let s := atExpiry .resting 1
  { s with
    engine := { s.engine with wanted := wanted, path := some .primary, named := some .primary }
    link := { s.link with
      miu := { s.link.miu with health := .present, flags := 0x10#8 }
      eu := { s.link.eu with health := .present, flags := 0x10#8 }
      miuMeas := { s.link.miuMeas with motoring := some 400 } } }

theorem test_witness_EngineIsRearmedCrankedAndRested_of_resting :
    (rested false).engine.wanted = false ∧ expired (rested true).now (rested true).engine.timer = true ∧
    (rested true).engine.wanted = true ∧ driving (rested true) = true ∧ inEngineZone (rested true) = true ∧
    euFault (rested true) = false ∧
    (∃ path, pathChosen { rested true with engine := { (rested true).engine with attempt := 2 } } = some path) ∧
    pathChosen { atExpiry .resting 1 with engine := { (atExpiry .resting 1).engine with attempt := 2 } } = none ∧
    (atExpiry .resting 0).engine.attempt = 0 ∧ (rested true).items.retry2 = .off :=
  ⟨by decide, by decide, by decide, by decide, by decide, by decide, ⟨_, rfl⟩, by decide, by decide, by decide⟩

/-- An engine state with the EU PRESENT, its flags and measurements, and the MIU ready to crank. -/
def withEu (e : EngineState) (flags : Byte) (speed catalyst : Int) : State :=
  let s := engineIn e (some 500#32) driven
  { s with link := { s.link with
    miu := { s.link.miu with health := .present, flags := 0x10#8 }
    eu := { s.link.eu with health := .present, flags := flags }
    miuMeas := { s.link.miuMeas with motoring := some 400 }
    euMeas := { s.link.euMeas with engineSpeed := some speed, catalyst := some catalyst } } }

/-- Records that want the engine and do not, taken in OFF, RUNNING and HOLDING; a path, and none. -/
theorem test_witness_RecordsStartHoldAndStopTheEngine :
    (solveRecord climb).engineWanted = true ∧ (solveRecord { climb with traction := some 10 }).engineWanted = false ∧
    (∀ e ∈ [EngineState.off, .running, .holding, .cranking],
      (solving climb (withEu e 0x10#8 0 0)).solver.solve = some climb ∧
      (solving climb (withEu e 0x10#8 0 0)).engine.state = e) ∧
    driven.run.state = .active ∧ climb.runState ≠ .standby ∧
    tableRow driven.solver.table driven.horizon.context.zone = ⟨true, true, true, true, true, false⟩ ∧
    (withEu .off 0x10#8 0 0).lines.svc.level = false ∧ (withEu .off 0x10#8 0 0).link.eu.health = .present ∧
    (withEu .off 0x10#8 0 0).link.eu.flags.getLsbD 1 = false ∧
    pathNamed { withEu .off 0x10#8 0 0 with engine := { driven.engine with attempt := 1 } } = .primary := by
  decide +kernel

theorem test_witness_RecordsStartHoldAndStopTheEngine_paths_and_min_run :
    UsesPath (withEu .off 0x10#8 0 0) .primary ∧ (∀ path, ¬ UsesPath driven path) ∧
    MinRunAhead driven (some 9#32) ∧ ¬ MinRunAhead driven none ∧
    (rested true).engine.path = some .primary ∧ (atExpiry .resting 3).engine.attempt = 3 := by
  refine ⟨⟨⟨rfl, 400, rfl, by decide⟩, Or.inl rfl⟩, ?_, ⟨9#32, rfl, by decide⟩, ?_, rfl, rfl⟩
  · intro path h
    cases path with
    | primary => exact absurd h.1.1 (by decide)
    | alternate => exact absurd h.1 (by unfold PathAvailable; decide)
  · rintro ⟨_, h, _⟩; cases h

/-- Each engine state with the reports that its clauses tell apart: FAULT, FIRING at 600 rpm with the catalyst below and at
LIGHT_OFF, no FIRING below 100 rpm. -/
theorem test_witness_EngineTakesReportsLossAndRestoration :
    Faulty (withEu .cranking 0x02#8 0 0) ∧
    (¬ Faulty (withEu .cranking 0x20#8 600 0) ∧ Firing (withEu .cranking 0x20#8 600 0) ∧
      (∃ v ∈ (withEu .cranking 0x20#8 600 0).link.euMeas.engineSpeed, 600 ≤ v) ∧
      ¬ CatalystReady (withEu .cranking 0x20#8 600 0)) ∧
    CatalystReady (withEu .warming 0x20#8 600 350) ∧
    (∀ e ∈ [EngineState.running, .holding, .warming, .stopping, .off],
      (withEu e 0x02#8 0 0).engine.state = e ∧ e ≠ .detached) ∧
    (¬ Firing (withEu .stopping 0x10#8 99 0) ∧
      (∃ v ∈ (withEu .stopping 0x10#8 99 0).link.euMeas.engineSpeed, v < 100) ∧
      ¬ Faulty (withEu .stopping 0x10#8 99 0)) ∧
    Firing (withEu .detached 0x20#8 600 0) ∧ ¬ Firing (withEu .detached 0x10#8 0 0) ∧
    (tableRow driven.solver.table driven.horizon.context.zone).assist = true ∧ driven.run.state = .active ∧
    driven.lines.svc.level = false ∧ driven.engine.wanted = false ∧
    MinRunAhead (withEu .warming 0x20#8 600 350) (some 9#32) := by
  refine ⟨by unfold Faulty; decide, ⟨by unfold Faulty; decide, by unfold Firing; decide, ⟨600, rfl, by decide⟩, ?_⟩,
    ⟨350, rfl, by decide⟩, by decide, ⟨by unfold Firing; decide, ⟨99, rfl, by decide⟩, by unfold Faulty; decide⟩,
    by unfold Firing; decide, by unfold Firing; decide, by decide, by decide, by decide, by decide,
    ⟨9#32, rfl, by decide⟩⟩
  rintro ⟨c, h, hc⟩
  cases h
  revert hc; decide

theorem test_witness_WarmMinRunAndStopLimitsExpire :
    expired (atExpiry .warming 1).now (atExpiry .warming 1).engine.timer = true ∧
    (atExpiry .warming 1).engine.wanted = false ∧ minRunUnexpired (atExpiry .warming 1) = false ∧
    minRunUnexpired { atExpiry .warming 1 with now := 899#32 } = true ∧
    (atExpiry .holding 1).engine.state = .holding ∧
    expired (atExpiry .holding 1).now (atExpiry .holding 1).engine.minRun = true ∧
    (atExpiry .stopping 1).engine.state = .stopping ∧ (atExpiry .stopping 1).link.eu.flags.getLsbD 5 = false ∧
    (atExpiry .stopping 1).engine.faultNoted = false ∧ (0x20#8).getLsbD 5 = true := by decide

theorem test_witness_UnitSetReplacesTheSettings :
    Ready 0x21#8 7#8 [4#8, 1#8, 0x10#8, 0x12#8, 1#8, 0#8, 0#8, 0#8, 0#8]
      (asked 0x21#8 [4#8, 1#8, 0x10#8, 0x12#8, 1#8, 0#8, 0#8, 0#8, 0#8] State.reset) ∧
    State.reset.run.state = .standby ∧ driven.run.state ≠ .standby ∧ 4 < nat8 [5#8] 0 ∧ nat8 [0#8] 0 = 0 ∧
    unitCode .acu = nat8 [4#8] 0 ∧
    settingsGiven .acu [4#8, 1#8, 0x10#8, 0x12#8, 1#8, 0#8, 0#8, 0#8, 0#8] =
      some ⟨true, 0x10#8, 0x12#8, .other, .same, false, false, none⟩ ∧
    settingsGiven .acu [4#8, 1#8, 0x30#8, 0x12#8, 1#8, 0#8, 0#8, 0#8, 0#8] = none ∧
    (UnitSettings.default .acu).expected &&& ~~~flagMask .acu = 0#8 ∧
    (UnitSettings.default .acu).mask &&& ~~~flagMask .acu = 0#8 ∧ (UnitSettings.default .acu).copyTo ≠ some .acu ∧
    State.reset.link.acu.settings.enabled = false := by
  unfold Ready; decide

/-- Lane A FAILED in ACTIVE. -/
def failedA : State := { driven with link := { driven.link with laneA := ⟨.failed, 0, false⟩ } }

theorem test_witness_LanesAreRestoredAndAbsentOnesStay :
    (∀ l ∈ [0#8, 1#8, 2#8], Ready 0x23#8 7#8 [l] (asked 0x23#8 [l] failedA)) ∧ 1 < (2#8).toNat ∧
    laneCode .a = (0#8).toNat ∧ (laneRecordOf failedA.link .a).state = .failed ∧ failedA.run.state ≠ .standby ∧
    (laneRecordOf failedA.link .b).state ≠ .failed ∧ State.reset.run.state = .standby := by
  unfold Ready; decide

/-- A part with one lane. -/
def single : State := State.fullReset ⟨false, true, false⟩ ⟨false, false, false, false⟩ []

theorem test_witness_AbsentLanesStayAbsent :
    (∀ lane, (laneRecordOf single.link lane).restorePending = true → (laneRecordOf single.link lane).state = .failed) ∧
    probedLanes single.link = [] ∧ (laneRecordOf single.link .b).state = .absent ∧
    ∃ t, exec .frameTimerExpiry single = .next t :=
  ⟨by intro lane; cases lane <;> decide, rfl, rfl, ⟨_, rfl⟩⟩

theorem test_witness_FrameTimerBeginsAFrame :
    driven.resetHeld = false ∧ expired 9#32 driven.link.timer = false ∧ expired 10#32 driven.link.timer = true ∧
    (exchanging .waiting).link.frame =
      .inFrame ⟨false, .transaction (miuTxn .waiting), [.eu, .bu, .acu]⟩ ∧
    driven.link.frame = .waiting ∧ pendingLanes driven.link = [] ∧ driven.link.miu.settings.enabled = true ∧
    usable driven.link .a = true ∧ usable driven.link driven.items.preferredLane = true ∧
    pendingLanes { driven.link with laneA := ⟨.failed, 0, true⟩ } = .a :: [] ∧
    usable { driven.link with laneA := ⟨.failed, 0, false⟩, laneB := ⟨.absent, 0, false⟩ } .a = false ∧
    usable { driven.link with laneA := ⟨.failed, 0, false⟩, laneB := ⟨.absent, 0, false⟩ } .b = false ∧
    driven.run.state ≠ .winddown := by decide +kernel

/-- The link with some units disabled. -/
def disabling (l : List UnitId) : State :=
  let off : UnitId → UnitRecord → UnitRecord := fun u r =>
    if u ∈ l then { r with settings := { r.settings with enabled := false } } else r
  { driven with link := { driven.link with
    miu := off .miu driven.link.miu, eu := off .eu driven.link.eu, bu := off .bu driven.link.bu
    acu := off .acu driven.link.acu } }

/-- WINDDOWN with no lane usable, the frame timer expired. -/
def dark : State :=
  let s := atTime 10#32 (inState .winddown driven)
  { s with link := { s.link with laneA := ⟨.failed, 0, false⟩, laneB := ⟨.absent, 0, false⟩ } }

theorem test_witness_FrameTimerBeginsAFrame_in_the_dark :
    dark.resetHeld = false ∧ expired dark.now dark.link.timer = true ∧ dark.link.frame = .waiting ∧
    pendingLanes dark.link = [] ∧ dark.run.state = .winddown ∧ usable dark.link .a = false ∧
    usable dark.link .b = false ∧ engineAtRest dark = true ∧
    engineAtRest (engineIn .stopping (some 900#32) dark) = false := by decide

theorem test_witness_FrameTimerBeginsAFrame_with_units_disabled :
    [UnitId.miu, .eu, .bu, .acu] = [.miu] ++ .eu :: [.bu, .acu] ∧
    (∀ v ∈ [UnitId.miu], (unitRecord (disabling [.miu]).link v).settings.enabled = false) ∧
    (unitRecord (disabling [.miu]).link .eu).settings.enabled = true ∧
    (∀ u, (unitRecord (disabling [.miu, .eu, .bu, .acu]).link u).settings.enabled = false) ∧
    (disabling [.miu]).link.frame = .waiting := by
  refine ⟨rfl, by decide, by decide, ?_, rfl⟩
  intro u; cases u <;> decide

/-- The bodies of the orders of a drive with one HELD grant, and an engine in each state that has an order of its own. -/
theorem test_witness_FrameTimerBeginsAFrame_of_the_orders :
    orderBody (granted (.held terms 0#32 none) driven) .acu = [1#8, 2#8, 0#8, 30#8] ∧
    orderBody (engineIn .stopping none driven) .eu = [0#8, 0xFF#8, 0#8, 0#8, 0#8, 0#8, 0#8, 0#8] ∧
    orderBody driven .miu = [4#8, 0#8, 0#8] ∧ orderBody driven .bu = [1#8, 0#8, 0#8] ∧
    (let s := engineIn .cranking none { driven with engine := { driven.engine with path := some .primary } }
     orderBody s .miu = [2#8, 0#8, 160#8] ∧ orderBody s .eu = [1#8, 0#8, 0#8, 0#8, 1#8, 0#8, 0#8, 0#8]) ∧
    (let s := { engineIn .running none driven with
       solver := { driven.solver with ofThisDrive := true, record := solveRecord (idling 1500) } }
     (solveRecord (idling 1500)).mode = .parkedCharge ∧ at8 (orderBody s .miu) 0 = 3#8 ∧
       (orderBody s .eu).drop 5 = [1#8, 0x05#8, 0x14#8]) := by decide +kernel

theorem test_witness_FrameTimerBeginsAFrame_of_the_permits :
    (granted (.held terms 0#32 none) driven).aux.length = 10 ∧
    ∀ x : Nat × Nat, x ∈ [(2, 30)] ↔ 2 ≤ x.1 ∧ x.1 ≤ 11 ∧
      grantCode (auxAt (granted (.held terms 0#32 none) driven) x.1).grant = 3 ∧
      ∃ held ∈ grantTerms (auxAt (granted (.held terms 0#32 none) driven) x.1).grant, held.power = x.2 := by
  refine ⟨rfl, fun ⟨ch, power⟩ => ⟨?_, ?_⟩⟩
  · intro h
    cases List.mem_singleton.mp h
    exact ⟨by decide, by decide, by decide +kernel, terms, rfl, rfl⟩
  · rintro ⟨h2, h11, h, held, hs, rfl⟩
    have only : ∀ c, 2 ≤ c → c ≤ 11 → grantCode (auxAt (granted (.held terms 0#32 none) driven) c).grant = 3 → c = 2 := by
      intro c h2 h11
      interval_cases c <;> decide +kernel
    cases only ch h2 h11 h
    have held_eq : terms = held := Option.some.inj hs
    subst held_eq
    decide

theorem test_witness_TransmissionsEndOrAreCutOff :
    driven.resetHeld = false ∧ (∀ f, driven.link.frame ≠ .inFrame f) ∧
    (∀ phase ∈ [TxnPhase.sending, .waiting, .copying [1#8]], (exchanging phase).link.frame =
      .inFrame ⟨false, .transaction (miuTxn phase), [.eu, .bu, .acu]⟩) ∧
    (miuTxn .sending).lane = .a ∧ (0#16) ≠ checkValue (miuTxn .sending).order ∧
    (laneRecordOf driven.link .a).state = .good ∧ usable driven.link .a = true :=
  ⟨rfl, (by intro _ h; cases h), (by decide +kernel), rfl, (by decide +kernel), rfl, rfl⟩

/-- A frame that probes lane A. -/
def probing : State :=
  { driven with link := { driven.link with
    laneA := ⟨.failed, 0, true⟩, frame := .inFrame ⟨false, .probing .a probeRecord [], [.miu, .eu, .bu, .acu]⟩ } }

theorem test_witness_TransmissionsEndOrAreCutOff_in_a_probe_and_on_a_suspect_lane :
    probing.link.frame = .inFrame ⟨false, .probing .a probeRecord [], [.miu, .eu, .bu, .acu]⟩ ∧
    probing.resetHeld = false ∧ checkValue probeRecord = checkValue probeRecord ∧ 0#16 ≠ checkValue probeRecord ∧
    (laneRecordOf { driven.link with laneA := ⟨.suspect, 3, false⟩ } .a).state = .suspect := by decide +kernel

/-- A peer copy that does not match, a probe that agrees, and a cut-off: each pushes LANE_STATE. -/
theorem test_witness_TransmissionsEndOrAreCutOff_of_lane_entries :
    FrameLaw (exchanging (.copying [1#8])) ∧ FrameLaw probing ∧
    (∃ t, exec (.linkTransmissionEnd .a 0#16) (exchanging (.copying [1#8, 2#8])) = .next t ∧
      t.link.laneA.state = .suspect ∧ laneEntry 0#32 .a .suspect .good 0 ∈ t.stack.entries ∧
      t.link.miu.missed = 0) ∧
    (∃ t, exec (.linkTransmissionEnd .a (checkValue probeRecord)) probing = .next t ∧ t.link.laneA.state = .good ∧
      laneEntry 0#32 .a .good .failed 4 ∈ t.stack.entries) ∧
    (∃ t, exec (.transmitLimitCutoff .a) (exchanging .sending) = .next t ∧
      laneEntry 0#32 .a .failed .good 2 ∈ t.stack.entries) := by
  refine ⟨⟨by decide +kernel, by decide +kernel, ?_⟩, ⟨by decide +kernel, by decide +kernel, ?_⟩,
    ⟨_, rfl, by decide +kernel, by decide +kernel, by decide +kernel⟩, ⟨_, rfl, by decide +kernel, by decide +kernel⟩,
    ⟨_, rfl, by decide +kernel⟩⟩
  · intro f h; cases h; exact ⟨by decide, by simp [unitsInOrder, miuTxn]⟩
  · intro f h; cases h; exact ⟨by decide, rfl⟩

/-- A full report of the MIU, READY. -/
def miuReport : List Byte :=
  laneRecord 1 2 1#8 ([0x10#8] ++ u16 1500 ++ i16 0 ++ i16 400 ++ i16 360 ++ u16 7 ++ i16 30)

theorem test_witness_ReportsAreRefusedOrTaken :
    (exchanging .waiting).resetHeld = false ∧ receivedInFull miuReport = true ∧
    wellFormed (miuTxn .waiting) (unitRecord (exchanging .waiting).link .miu).settings miuReport = true ∧
    isBrief miuReport = false ∧
    wellFormed (miuTxn .waiting) (unitRecord (exchanging .waiting).link .miu).settings (miuReport.set 4 0#8) = false ∧
    receivedInFull (miuReport.take 18) = false ∧
    ((reportFlags .miu miuReport ^^^ (unitRecord (exchanging .waiting).link .miu).settings.expected) &&&
      (unitRecord (exchanging .waiting).link .miu).settings.mask) = 0#8 := by decide +kernel

/-- A frame in a transaction whose report is awaited obeys the law of frames. -/
theorem test_witness_FrameLaw_in_a_report_wait : FrameLaw (exchanging .waiting) := by
  refine ⟨by decide +kernel, by decide +kernel, ?_⟩
  intro f h
  cases h
  exact ⟨by decide, by simp [unitsInOrder, miuTxn]⟩

/-- The transaction of a unit, its report awaited on lane A after a silent attempt on lane B, with the unit's settings. -/
def awaiting (u : UnitId) (left : List UnitId) (g : UnitSettings) : State :=
  setUnit u (fun r => { r with settings := g }) { driven with link := { driven.link with
    frame := .inFrame ⟨false, .transaction { miuTxn .waiting with
      unit := u, order := laneRecord (unitCode u) 1 1#8 [], onB := ⟨true, true, true, false⟩ }, left⟩ } }

/-- Reports after a silent attempt on the other lane, with a status-set pattern, a peer copy, and an overdraw of the ACU. -/
theorem test_witness_ReportsAreRefusedOrTaken_of_what_follows :
    FrameLaw (awaiting .miu [.eu] (.default .miu)) ∧
    (∃ t, exec (.reportReceived (laneRecord 1 2 1#8 (0x12#8 :: List.replicate 12 0#8)))
        (awaiting .miu [.eu] (.default .miu)) = .next t ∧ t.link.laneB.state = .suspect ∧
      laneEntry 0#32 .b .suspect .good 1 ∈ t.stack.entries ∧
      ⟨0#32, .unitStatusSet, 1#16, 0x02120000#32⟩ ∈ t.stack.entries) ∧
    (∃ t, exec (.reportReceived (laneRecord 1 2 1#8 (0x10#8 :: List.replicate 12 0#8)))
        (awaiting .miu [.eu] { UnitSettings.default .miu with copyTo := some .bu }) = .next t ∧
      t.link.miu.onA.copies = 1) ∧
    (∃ t, exec (.reportReceived (laneRecord 4 2 1#8 [0x10#8, 0#8, 11#8]))
        (awaiting .acu [] { UnitSettings.default .acu with enabled := true }) = .next t ∧
      t.arbiter.overdrawTripped = true ∧ ⟨0#32, .auxOverdraw, 4#16, 0x000B000A#32⟩ ∈ t.stack.entries) ∧
    (∃ t, exec (.reportReceived (laneRecord 1 2 1#8 [0x11#8]))
        (awaiting .miu [.eu] { UnitSettings.default .miu with briefBusy := true }) = .next t ∧
      t.link.miu.health = .present ∧ t.link.miu.onA.taken = 1) ∧
    (∃ t, exec (.reportReceived (laneRecord 1 2 1#8 (0x12#8 :: List.replicate 12 0#8)))
        (awaiting .miu [.eu] { UnitSettings.default .miu with retryIfStatusSet := true }) = .next t ∧
      t.link.miu.health = .joining) := by
  refine ⟨⟨by decide +kernel, by decide +kernel, ?_⟩, ⟨_, rfl, by decide +kernel, by decide +kernel, by decide +kernel⟩,
    ⟨_, rfl, by decide +kernel⟩, ⟨_, rfl, by decide +kernel, by decide +kernel⟩,
    ⟨_, rfl, by decide +kernel, by decide +kernel⟩, ⟨_, rfl, by decide +kernel⟩⟩
  intro f h; cases h; exact ⟨by decide, by simp [unitsInOrder]⟩

theorem test_witness_ReportWaitEndsSilent :
    (exchanging .waiting).resetHeld = false ∧ (miuTxn .waiting).phase = .waiting ∧ (miuTxn .waiting).attempt = 1 ∧
    (unitRecord (exchanging .waiting).link .miu).settings.retry1 = .other ∧
    usable (exchanging .waiting).link (otherLane (miuTxn .waiting).lane) = true := by decide +kernel

/-- A frame in the MIU's transaction at an attempt, with a RETRY2. -/
def retrying (attempt : Nat) (r : Retry2) : State :=
  { exchanging .waiting with link := { (exchanging .waiting).link with
    miu := { driven.link.miu with settings := { driven.link.miu.settings with retry2 := r } }
    frame := .inFrame ⟨false, .transaction { miuTxn .waiting with attempt := attempt }, [.eu, .bu, .acu]⟩ } }

theorem test_witness_ReportWaitEndsSilent_on_later_attempts :
    (∀ r ∈ [Retry2.same, .other, .off], (unitRecord (retrying 2 r).link .miu).settings.retry2 = r) ∧
    (retrying 2 .same).link.frame =
      .inFrame ⟨false, .transaction { miuTxn .waiting with attempt := 2 }, [.eu, .bu, .acu]⟩ ∧
    usable (retrying 2 .same).link .a = true ∧ usable (retrying 2 .other).link (otherLane .a) = true ∧
    3 ≤ ({ miuTxn .waiting with attempt := 3 } : Txn).attempt ∧
    FrameLaw (retrying 2 .same) ∧ FrameLaw (retrying 3 .off) := by
  refine ⟨by decide, rfl, by decide, by decide, by decide, ?_, ?_⟩ <;>
    refine ⟨by decide +kernel, by decide +kernel, ?_⟩ <;>
    (intro f h; cases h; exact ⟨by decide, by simp [unitsInOrder, miuTxn]⟩)

theorem test_witness_ReportWaitEndsSilent_names_the_next_lane :
    NamesNext (miuTxn .waiting) .b (exchanging .waiting) ∧
    NamesNext { miuTxn .waiting with attempt := 2 } .a (retrying 2 .same) ∧
    (∀ named, ¬ NamesNext { miuTxn .waiting with attempt := 2 } named (retrying 2 .off)) ∧
    usable (exchanging .waiting).link .b = true := by
  refine ⟨.inl ⟨rfl, rfl⟩, .inr ⟨rfl, by decide, rfl⟩, ?_, by decide⟩
  rintro named (⟨h, _⟩ | ⟨_, h, _⟩)
  · cases h
  · exact h rfl

/-- The EU's transaction of a frame, its report awaited, with the EU in a state of health. -/
def awaitingEu (h : Health) : State :=
  { driven with link := { driven.link with
    eu := { driven.link.eu with health := h }
    frame := .inFrame ⟨false, .transaction { miuTxn .waiting with
      unit := .eu, order := laneRecord 2 1 1#8 (orderBody driven .eu) }, [.bu, .acu]⟩ } }

/-- A full report of the EU, READY. -/
def euReport : List Byte := laneRecord 2 2 1#8 ([0x10#8] ++ u16 0 ++ i16 0 ++ i16 400 ++ i16 20 ++ [0#8])

theorem test_witness_EngineTakesReports_from_the_link :
    (awaitingEu .lost).resetHeld = false ∧ FrameLaw (awaitingEu .lost) ∧ receivedInFull euReport = true ∧
    wellFormed { miuTxn .waiting with unit := .eu, order := laneRecord 2 1 1#8 (orderBody driven .eu) }
      (awaitingEu .lost).link.eu.settings euReport = true ∧
    statusPattern (awaitingEu .lost).link.eu.settings (reportFlags .eu euReport) = 0#8 := by
  refine ⟨rfl, ⟨by decide +kernel, by decide +kernel, ?_⟩, by decide +kernel, by decide +kernel, by decide +kernel⟩
  intro f h; cases h; exact ⟨by decide, by simp [unitsInOrder]⟩

/-- WINDDOWN in the last transaction of a quiet frame. -/
def quieting : State :=
  let s := inState .winddown driven
  { s with link := { s.link with
    frame := .inFrame ⟨true, .transaction { miuTxn .waiting with attempt := 3 }, []⟩ } }

/-- The MIU one missed part short of its loss. -/
def missing : State := { driven with link := { driven.link with miu := { driven.link.miu with missed := 2 } } }

theorem test_witness_UnitsAreLostAndRestoredAndQuietFramesEnd :
    (missing.items.lossLimit ≤ raise (unitRecord missing.link .miu).missed ∧
      (unitRecord missing.link .miu).health = .joining) ∧
    ¬ driven.items.lossLimit ≤ raise (unitRecord driven.link .miu).missed ∧
    (unitRecord (awaitingEu .lost).link .eu).health = .lost ∧
    (quieting.run.state = .winddown ∧ quieting.engine.state = .off) ∧ ¬ driven.run.state = .winddown ∧
    (quieting.resetHeld = false ∧ 3 ≤ ({ miuTxn .waiting with attempt := 3 } : Txn).attempt ∧
      (∀ u ∈ ([] : List UnitId), (unitRecord quieting.link u).settings.enabled = false)) := by decide +kernel

/-- The quiet frame's last silent attempt parks the van. -/
theorem test_quiet_frame_ends_winddown :
    ∃ t, exec .reportWaitExpiry quieting = .next t ∧ t.run.state = .standby ∧ t.link.frame = .noFrames :=
  ⟨_, rfl, by decide +kernel, by decide +kernel⟩

theorem test_witness_EventsAreReadAndMasksSet :
    (∀ n ∈ [0#8, 1#8, 8#8, 9#8], Ready 0x24#8 7#8 [n] (asked 0x24#8 [n] driven)) ∧ (0#8).toNat < 1 ∧ 8 < (9#8).toNat ∧
    Ready 0x25#8 7#8 [1#8, 0#8, 0#8, 0#8] (asked 0x25#8 [1#8, 0#8, 0#8, 0#8] driven) ∧ (1#8).toNat < 2 ∧
    Ready 0x26#8 7#8 [2#8, 0#8, 0#8, 0#8] (asked 0x26#8 [2#8, 0#8, 0#8, 0#8] driven) ∧ 2 ≤ (2#8).toNat := by
  unfold Ready; decide

/-- A port whose receiver has taken some bytes. -/
def receiving (r : Receiver) (bytes : List Byte) : State := setReceiver r bytes driven

theorem test_witness_HostBytesAndLineEvents :
    (receiving .hunt []).port.receiver = .hunt ∧ (receiving .discard []).port.receiver = .discard ∧
    (receiving .header [0xC3#8]).port.partialFrame = [0xC3#8] ∧ (200#8).toNat ≤ 200 ∧ 200 < (201#8).toNat ∧
    (receiving .header [0xC3#8, 0#8]).port.partialFrame = [0xC3#8, 0#8] ∧
    (receiving .header [0xC3#8, 0#8, 1#8]).port.partialFrame = [0xC3#8, 0#8, 1#8] ∧
    (receiving .body [0xC3#8, 0#8, 1#8, 7#8]).port.partialFrame = 0xC3#8 :: 0#8 :: 1#8 :: 7#8 :: [] ∧
    ([] : List Byte).length + 1 < (0#8).toNat + 2 ∧ ([9#8] : List Byte).length + 1 = (0#8).toNat + 2 ∧
    (receiving .hunt []).resetHeld = false ∧ driven.port.replies = [] ∧ driven.port.notice = none := by decide

/-- The frame of an IDENTIFY with tag 7, as bytes, is the one whose last byte completes it. -/
theorem test_witness_HostFramesAreJudgedWhenComplete :
    let f : Frame := ⟨0x01#8, 7#8, []⟩
    (receiving .body f.wireBytes.dropLast).port.receiver = .body ∧ f.payload.length ≤ 200 ∧
    (receiving .body f.wireBytes.dropLast).port.partialFrame ++ [f.wireBytes.getLast?.getD 0#8] = f.wireBytes ∧
    (receiving .body f.wireBytes.dropLast).port.received.length < 4 ∧
    crc16 [0#8, 1#8, 7#8] ≠ word16 0#8 0#8 ∧
    (receiving .hunt []).port.receiver ≠ .body ∧ ([1#8, 7#8] : List Byte).length + 3 ≠ (0#8).toNat + 6 ∧
    4 ≤ ({ driven.port with received := List.replicate 4 f } : Port).received.length := by decide +kernel

theorem test_witness_RawChangesSettleAndDebouncedOnesReachTheirReaders :
    driven.resetHeld = false ∧ (inputOf driven.lines .aux).settling = false ∧
    (∀ line ∈ [Line.ign, .svc, .plug, .aux], ∀ level ∈ [false, true],
      (inputOf (settling line level driven).lines line).settling ≠ (inputOf (settling line level driven).lines line).level ∧
      5 ≤ ((settling line level driven).now - (inputOf (settling line level driven).lines line).settledAt).toNat) ∧
    (4#32 - 0#32).toNat < 5 ∧ driving driven = true ∧ driving State.reset = false := by decide +kernel

/-- SVC rises in ACTIVE with the engine running: LINE_EDGE, RUN_STATE and ENGINE_STATE. -/
theorem test_witness_RawChangesSettle_of_the_rise_of_svc :
    let s := settling .svc true (engineIn .running none driven)
    s.arbiter.queue = [] ∧ (∀ c ∈ s.aux, isGranted c = false) ∧
    ∃ t, exec (.debounceExpiry .svc) s = .next t ∧
      t.stack.entries = edgeEntries .svc true s ++ runEntry 5#32 2#16 t.run.causes ::
        stopEntries 5#32 .service s.engine ∧ t.stack.entries.length = 3 :=
  ⟨rfl, by decide, _, rfl, by decide +kernel, by decide +kernel⟩

/-- The laws hold in a drive, and a step goes on from it. -/
theorem test_witness_stack_port_and_output_in_a_drive : StackLaw driven ∧ PortLaw driven ∧ LimpOutLaw driven := by
  unfold StackLaw PortLaw LimpOutLaw; decide

theorem test_witness_grants_in_a_drive : GrantLaw (queuedTwo driven) := by
  unfold GrantLaw shutDown; decide +kernel

theorem test_witness_engine_in_a_drive :
    EngineLaw (atExpiry .resting 2) ∧ EngineZoneLaw (engineIn .running none driven) := by
  unfold EngineLaw EngineZoneLaw; decide

theorem test_witness_horizon_in_a_drive : HorizonLaw swapping := by
  refine ⟨?_, ?_, ?_, by decide, by decide, by decide, ?_, by decide, by decide, by decide⟩
  · unfold ListLaw; decide
  · unfold ListLaw; decide
  · unfold ListLaw; decide
  · intro g h; cases h; decide

theorem test_witness_causes_and_zero_emission_in_a_drive :
    CauseLaw driven ∧ ZeroEmissionLaw (solving climb driven) := by
  refine ⟨by unfold CauseLaw; decide, by decide, by unfold TableLaw; decide, ?_⟩
  intro n h; cases h; unfold TableLaw; decide

theorem test_witness_lanes_in_a_drive : LaneLaw driven := by
  refine ⟨fun lane => by cases lane <;> decide, by decide, by decide⟩

theorem test_witness_a_step_of_a_drive :
    (∃ t, step driven = .next t) ∧
    (∃ t, step { exchanging .waiting with pending := [.reportReceived miuReport] } = .next t) ∧
    (∃ t, step { solving climb driven with pending := [.solveCompletion] } = .next t) :=
  ⟨⟨_, rfl⟩, ⟨_, rfl⟩, ⟨_, rfl⟩⟩

end Sys2Proof.Tests
end

