-- ==== Sys2Proof/Proofs/RunControlReads.lean ====
section
/-! The reads of Run Control and of the configuration: IDENTIFY, CONFIG_GET, RUN_READ and LINES_READ (R25, R28, R30, R32).
A read changes nothing but the port's queues (`request_read`), so each proof is the act's own equation. -/

namespace Sys2Proof.Proofs.RunControlReads

open Sys2Proof.Machine Sys2Proof.Safety

/-! ## Requests that change nothing -/

/-- A request whose act answers DONE and changes nothing: only the port's queues change. -/
theorem request_read {kind tag : Byte} {length : Nat} {payload : List Byte} {act : State → State × Answer} {s : State}
    {fields : List Byte} (ready : Ready kind tag payload s) (defined : kindDefined kind = true)
    (len : payload.length = length)
    (h : act (beginExecution ⟨kind, tag, payload⟩ s) = doneWith fields (beginExecution ⟨kind, tag, payload⟩ s)) :
    request kind length tag payload act s = replied kind tag (0#8 :: fields) s :=
  request_replied ready defined len rfl h

@[simp] theorem beginExecution_run (f : Frame) (s : State) : (beginExecution f s).run = s.run := rfl
@[simp] theorem beginExecution_lines (f : Frame) (s : State) : (beginExecution f s).lines = s.lines := rfl
@[simp] theorem beginExecution_items (f : Frame) (s : State) : (beginExecution f s).items = s.items := rfl

/-! ## The commands of the four reads -/

theorem exec_identify (tag : Byte) (payload : List Byte) (s : State) :
    exec (.identify tag payload) s = .next (request 0x01#8 0 tag payload identifyAct s) := rfl

theorem exec_runRead (tag : Byte) (payload : List Byte) (s : State) :
    exec (.runRead tag payload) s = .next (request 0x05#8 0 tag payload runReadAct s) := rfl

theorem exec_configGet (tag : Byte) (payload : List Byte) (s : State) :
    exec (.configGet tag payload) s = .next (request 0x07#8 1 tag payload (configGetAct payload) s) := rfl

theorem exec_linesRead (tag : Byte) (payload : List Byte) (s : State) :
    exec (.linesRead tag payload) s = .next (request 0x08#8 0 tag payload linesReadAct s) := rfl

/-! ## What each act answers -/

/-- The three strap values, one byte each (R29). -/
theorem strapBytes_eq (t : Straps) :
    strapBytes t = flag t.beltFitted ++ flag t.lanesSingle ++ flag t.rateTwoMbit := rfl

/-- The three codes and the four capacities of R30 as the bytes of the layouts chapter, around the straps. -/
theorem identifyAct_eq (s : State) :
    identifyAct s = doneWith ([0x0B#8, 0x27#8, 0x02#8, 0x40#8, 2#8] ++ strapBytes s.lines.straps ++
      [12#8, 16#8, 128#8, 128#8]) s := by
  have codes : u16 Config.vendorCode ++ u16 Config.partCode ++ u8 Config.revisionCode =
      [0x0B#8, 0x27#8, 0x02#8, 0x40#8, 2#8] := by decide
  have capacities : u8 (2 + Config.auxChannels) ++ u8 Config.askCapacity ++ u8 Config.singleCapacity ++
      u8 Config.stackCapacity = [12#8, 16#8, 128#8, 128#8] := by decide
  simp only [identifyAct, ← codes, ← capacities, List.append_assoc]

/-- The run state, the cause set and the time of the last change, the four levels, the straps (R25). -/
theorem runReadAct_eq (s : State) :
    runReadAct s = doneWith ([byteOf (runStateCode s.run.state), byteOf (causesCode s.run.causes)] ++
      be32 s.run.lastChange ++ flag s.lines.ign.level ++ flag s.lines.svc.level ++ flag s.lines.plug.level ++
      flag s.lines.aux.level ++ strapBytes s.lines.straps) s := rfl

/-- A code of no item is RANGE (R32). -/
theorem configGetAct_none {code : Byte} (unknown : itemOf code.toNat = none) (s : State) :
    configGetAct [code] s = refusedWith .range s := by
  have operand : nat8 [code] 0 = code.toNat := rfl
  simp only [configGetAct, operand, unknown]

/-- The value, the class and the acceptance of an item (R32): a LIVE item is accepted in every run state, a STANDBY-ONLY
item in STANDBY. -/
theorem configGetAct_some {code : Byte} {i : Item} (known : itemOf code.toNat = some i) (s : State) :
    configGetAct [code] s = doneWith (be32 (BitVec.ofNat 32 (itemGet s.items i)) ++ flag (itemStandbyOnly i) ++
      flag (decide (itemStandbyOnly i = false ∨ s.run.state = .standby))) s := by
  have operand : nat8 [code] 0 = code.toNat := rfl
  have accepted : (!itemStandbyOnly i || decide (s.run.state = .standby)) =
      decide (itemStandbyOnly i = false ∨ s.run.state = .standby) := by
    cases itemStandbyOnly i <;> simp
  simp only [configGetAct, operand, known, accepted, u32]

/-- One input's record in LINES_READ (R28); it is settling while the debounced level and the raw one differ (R26). -/
theorem inputBytes_eq (i : Input) (edge : EdgeSelect) (event : Bool) :
    inputBytes i edge event = flag i.level ++ flag (decide (i.settling ≠ i.level)) ++ be32 i.changedAt ++
      [byteOf (edgeCode edge)] ++ flag event := by
  have differs : (i.settling != i.level) = decide (i.settling ≠ i.level) := by
    cases i.settling <;> cases i.level <;> rfl
  simp only [inputBytes, differs, u8]

/-- The four inputs' records in the order IGN, SVC, PLUG, AUX (R28). -/
theorem linesReadAct_eq (s : State) :
    linesReadAct s = doneWith (inputBytes s.lines.ign s.items.ignEdge s.items.ignEvent ++
      inputBytes s.lines.svc s.items.svcEdge s.items.svcEvent ++
      inputBytes s.lines.plug s.items.plugEdge s.items.plugEvent ++
      inputBytes s.lines.aux s.items.auxEdge s.items.auxEvent) s := rfl

/-! ## The statements -/

/-- Settles O7, from the acts' equations: IDENTIFY always answers DONE, CONFIG_GET by the case of `itemOf`. -/
theorem identifyAndConfigGetReply : Obligations.IdentifyAndConfigGetReply := by
  refine ⟨fun tag s ready => ?identify, fun tag code s ready => ⟨fun i known => ?item, fun unknown => ?noItem⟩⟩
  case identify =>
    rw [exec_identify, request_read (length := 0) ready rfl rfl (identifyAct_eq _)]
    simp only [beginExecution_lines, strapBytes_eq, List.append_assoc, List.cons_append, List.nil_append]
  case item =>
    rw [exec_configGet, request_read (length := 1) ready rfl rfl (configGetAct_some known _)]
    rfl
  case noItem =>
    rw [exec_configGet, request_refused (length := 1) ready rfl rfl (configGetAct_none unknown _)]
    rfl

/-- Settles O8, from the acts' equations: both reads always answer DONE, LINES_READ with four records of one layout. -/
theorem runReadAndLinesReadReply : Obligations.RunReadAndLinesReadReply := by
  refine ⟨fun tag s ready => ?runRead, fun tag s ready => ?linesRead⟩
  case runRead =>
    rw [exec_runRead, request_read (length := 0) ready rfl rfl (runReadAct_eq _)]
    simp only [beginExecution_run, beginExecution_lines, strapBytes_eq, List.append_assoc, List.cons_append,
      List.nil_append]
  case linesRead =>
    rw [exec_linesRead, request_read (length := 0) ready rfl rfl (linesReadAct_eq _)]
    simp only [beginExecution_lines, beginExecution_items, inputBytes_eq]

end Sys2Proof.Proofs.RunControlReads
end

