-- ==== Sys2Proof/Proofs/ChannelOpening.lean ====
section
/-! CHANNEL_OPEN (R45): the operands it accepts, its checks in the order it makes them, and the channel it opens. -/

namespace Sys2Proof.Proofs.ChannelOpening

open Sys2Proof.Machine Sys2Proof.Safety

/-! ## The operands: class and set of pools -/

/-- A class that a request names: 0 is ESSENTIAL, 1 is DEFERRABLE. -/
theorem classOf_some {n : Nat} (h : n ≤ 1) : classOf n = some (if n = 0 then .essential else .deferrable) := by
  interval_cases n <;> rfl

/-- A code above 1 names no class. -/
theorem classOf_none {n : Nat} (h : 1 < n) : classOf n = none := by
  unfold classOf
  split
  · omega
  · omega
  · rfl

/-- A set of pools is given by the codes 1 to 3, bit 0 for BATTERY and bit 1 for GENERATION. -/
theorem poolsGiven_some {b : Byte} (low : 1 ≤ b.toNat) (high : b.toNat ≤ 3) :
    poolsGiven b = some ⟨b.getLsbD 0, b.getLsbD 1⟩ := if_pos ⟨low, high⟩

/-- The empty set and the codes of other bits are not given. -/
theorem poolsGiven_none {b : Byte} (h : b.toNat = 0 ∨ 3 < b.toNat) : poolsGiven b = none :=
  if_neg (by omega)

/-! ## The act -/

theorem exec_channelOpen (tag : Byte) (payload : List Byte) (s : State) :
    exec (.channelOpen tag payload) s = .next (request 0x09#8 5 tag payload (channelOpenAct payload) s) := rfl

/-- The first check: a channel above 11 is RANGE. -/
theorem channelOpenAct_above {ch cls pools a1 a0 : Byte} {s : State} (above : 11 < ch.toNat) :
    channelOpenAct [ch, cls, pools, a1, a0] s = refusedWith .range s := if_pos above

/-- The second check: a demand channel, or an auxiliary channel that is open, is STATE. -/
theorem channelOpenAct_taken {ch cls pools a1 a0 : Byte} {s : State} (within : ch.toNat ≤ 11)
    (taken : ch.toNat < 2 ∨ (auxAt s ch.toNat).isOpen = true) :
    channelOpenAct [ch, cls, pools, a1, a0] s = refusedWith .state s :=
  (if_neg (Nat.not_lt.mpr within)).trans (if_pos taken)

/-- Behind the first two checks the answer turns on the class, the pools and the allowance alone. -/
theorem channelOpenAct_closed {ch cls pools a1 a0 : Byte} {s : State} (auxiliary : 2 ≤ ch.toNat)
    (within : ch.toNat ≤ 11) (closed : (auxAt s ch.toNat).isOpen = false) :
    channelOpenAct [ch, cls, pools, a1, a0] s =
      match classOf cls.toNat, poolsGiven pools with
      | some c, some p =>
        if (word16 a1 a0).toNat ≤ 20000 then
          doneWith [] (setAux ch.toNat ⟨true, c, p, (word16 a1 a0).toNat, 0, .none⟩ s)
        else refusedWith .range s
      | _, _ => refusedWith .range s := by
  have free : ¬ (ch.toNat < 2 ∨ (auxAt s ch.toNat).isOpen = true) := by
    rw [closed]
    exact not_or.mpr ⟨Nat.not_lt.mpr auxiliary, Bool.false_ne_true⟩
  exact (if_neg (Nat.not_lt.mpr within)).trans (if_neg free)

/-- The third check: a class above 1, an undefined or empty set of pools, or an allowance above 20000 Wh is RANGE. -/
theorem channelOpenAct_outOfRange {ch cls pools a1 a0 : Byte} {s : State} (auxiliary : 2 ≤ ch.toNat)
    (within : ch.toNat ≤ 11) (closed : (auxAt s ch.toNat).isOpen = false)
    (bad : 1 < cls.toNat ∨ pools.toNat = 0 ∨ 3 < pools.toNat ∨ 20000 < (word16 a1 a0).toNat) :
    channelOpenAct [ch, cls, pools, a1, a0] s = refusedWith .range s := by
  rw [channelOpenAct_closed auxiliary within closed]
  rcases bad.imp_right or_assoc.mpr with noClass | noPools | tooMuch
  · rw [classOf_none noClass]
  · rw [poolsGiven_none noPools]
    cases classOf cls.toNat <;> rfl
  · simp only [if_neg (Nat.not_le.mpr tooMuch)]
    split <;> rfl

/-- An accepted CHANNEL_OPEN writes the channel's record: OPEN with the given class, pools and allowance, with used energy
0 and grant state NONE. -/
theorem channelOpenAct_accepted {ch cls pools a1 a0 : Byte} {s : State} (auxiliary : 2 ≤ ch.toNat)
    (within : ch.toNat ≤ 11) (closed : (auxAt s ch.toNat).isOpen = false) (hasClass : cls.toNat ≤ 1)
    (low : 1 ≤ pools.toNat) (high : pools.toNat ≤ 3) (allowed : (word16 a1 a0).toNat ≤ 20000) :
    channelOpenAct [ch, cls, pools, a1, a0] s =
      doneWith [] (setAux ch.toNat
        ⟨true, if cls.toNat = 0 then .essential else .deferrable, ⟨pools.getLsbD 0, pools.getLsbD 1⟩,
          (word16 a1 a0).toNat, 0, .none⟩ s) := by
  rw [channelOpenAct_closed auxiliary within closed, classOf_some hasClass, poolsGiven_some low high]
  exact if_pos allowed

/-! ## The statement -/

/-- A CHANNEL_OPEN whose act refuses changes nothing but the port's queues. -/
theorem exec_channelOpen_refused {tag ch cls pools a1 a0 : Byte} {s : State} {code : ResultCode}
    (ready : Ready 0x09#8 tag [ch, cls, pools, a1, a0] s)
    (refused : channelOpenAct [ch, cls, pools, a1, a0]
        (beginExecution ⟨0x09#8, tag, [ch, cls, pools, a1, a0]⟩ s) =
      refusedWith code (beginExecution ⟨0x09#8, tag, [ch, cls, pools, a1, a0]⟩ s)) :
    exec (.channelOpen tag [ch, cls, pools, a1, a0]) s = .next (replied 0x09#8 tag [byteOf (resultCode code)] s) := by
  rw [exec_channelOpen, request_refused (length := 5) ready rfl rfl refused]

/-- Settles O13, by the three checks of R45 in order and then the acceptance: each case is the act's equation for it. -/
theorem channelOpenOpensAnAuxiliaryChannel : Obligations.ChannelOpenOpensAnAuxiliaryChannel := by
  intro tag ch cls pools a1 a0 s ready
  refine ⟨fun above => ?above, fun taken => ?taken, fun ⟨auxiliary, within, closed⟩ =>
    ⟨fun bad => ?outOfRange, fun ⟨hasClass, low, high, allowed⟩ => ?accepted⟩⟩
  case above => exact exec_channelOpen_refused ready (channelOpenAct_above above)
  case taken =>
    have within : ch.toNat ≤ 11 := by omega
    exact exec_channelOpen_refused ready (channelOpenAct_taken within (taken.imp_right And.right))
  case outOfRange => exact exec_channelOpen_refused ready (channelOpenAct_outOfRange auxiliary within closed bad)
  case accepted =>
    rw [exec_channelOpen, request_replied (length := 5) (code := .done) (fields := []) (t := setAux ch.toNat _ s)
      ready rfl rfl rfl (channelOpenAct_accepted auxiliary within closed hasClass low high allowed)]
    rfl

end Sys2Proof.Proofs.ChannelOpening
end

