-- ==== Sys2Proof/Proofs/GrantConfirmation.lean ====
section
/-! GRANT_CONFIRM (R60): the answer for each channel found, and what holding an offer adds to the HELD sum. -/

namespace Sys2Proof.Proofs.GrantConfirmation

open Sys2Proof.Machine Sys2Proof.Safety

/-! ## The channel of a request -/

/-- A request of the Arbiter names one of the auxiliary channels 2 to 11. -/
theorem channelGiven_some {ch : Byte} (auxiliary : 2 ≤ ch.toNat ∧ ch.toNat ≤ 11) :
    channelGiven [ch] = some ch.toNat := if_pos auxiliary

/-- A demand channel, and a number above 11, is no channel of the Arbiter. -/
theorem channelGiven_none {ch : Byte} (outside : ch.toNat < 2 ∨ 11 < ch.toNat) : channelGiven [ch] = none :=
  if_neg fun auxiliary : 2 ≤ ch.toNat ∧ ch.toNat ≤ 11 => by omega

/-- An OPEN channel has its place in the table, since what stands outside the table reads as CLOSED. -/
theorem auxAt_open_inTable {s : State} {channel : Nat} (opened : (auxAt s channel).isOpen = true) :
    channel - 2 < s.aux.length := by
  by_contra outside
  have closed : auxAt s channel = .closed := List.getD_eq_default _ _ (Nat.not_lt.mp outside)
  rw [closed] at opened
  exact Bool.false_ne_true opened

/-- The record of an OPEN channel is the one at its place. -/
theorem auxAt_eq_getElem {s : State} {channel : Nat} (inTable : channel - 2 < s.aux.length) :
    auxAt s channel = s.aux[channel - 2] := List.getD_eq_getElem _ _ inTable

/-! ## The HELD sum -/

/-- Replacing one record replaces that channel's part of the HELD sum. -/
theorem heldSum_set {aux : List AuxChannel} {i : Nat} (inTable : i < aux.length) (c : AuxChannel) :
    heldSum (aux.set i c) + heldPower aux[i] = heldSum aux + heldPower c := by
  induction aux generalizing i with
  | nil => exact absurd inTable (Nat.not_lt_zero i)
  | cons head rest ih =>
    cases i with
    | zero =>
      simp only [heldSum, List.set_cons_zero, List.map_cons, List.sum_cons, List.getElem_cons_zero]
      omega
    | succ j =>
      have tail := ih (Nat.lt_of_succ_lt_succ inTable)
      simp only [heldSum, List.set_cons_succ, List.map_cons, List.sum_cons, List.getElem_cons_succ] at tail ⊢
      omega

/-- An OFFERED grant counts nothing in the HELD sum. -/
theorem heldPower_of_offered {c : AuxChannel} {terms : Terms} {confirmBy : TimeTag}
    (offered : c.grant = .offered terms confirmBy) : heldPower c = 0 := by
  simp only [heldPower, offered]

/-- An OFFERED channel that becomes HELD raises the HELD sum by the granted power (R60). -/
theorem heldSum_hold {s : State} {channel : Nat} {terms : Terms} {confirmBy : TimeTag}
    (opened : (auxAt s channel).isOpen = true) (offered : (auxAt s channel).grant = .offered terms confirmBy)
    (confirmTime : TimeTag) (expiry : Option TimeTag) :
    heldSum (s.aux.set (channel - 2) { auxAt s channel with grant := .held terms confirmTime expiry }) =
      heldSum s.aux + terms.power := by
  have inTable := auxAt_open_inTable opened
  have uncounted : heldPower s.aux[channel - 2] = 0 := by
    rw [← auxAt_eq_getElem inTable]
    exact heldPower_of_offered offered
  have replaced := heldSum_set inTable { auxAt s channel with grant := .held terms confirmTime expiry }
  rwa [uncounted] at replaced

/-! ## The act -/

theorem exec_grantConfirm (tag : Byte) (payload : List Byte) (s : State) :
    exec (.grantConfirm tag payload) s = .next (request 0x0E#8 1 tag payload (grantConfirmAct payload) s) := rfl

/-- The first check: a channel outside 2 to 11 is RANGE. -/
theorem grantConfirmAct_outside {ch : Byte} {s : State} (outside : ch.toNat < 2 ∨ 11 < ch.toNat) :
    grantConfirmAct [ch] s = refusedWith .range s := by
  simp only [grantConfirmAct, channelGiven_none outside]

/-- The second check: a CLOSED channel is ABSENT. -/
theorem grantConfirmAct_closed {ch : Byte} {s : State} (auxiliary : 2 ≤ ch.toNat ∧ ch.toNat ≤ 11)
    (closed : (auxAt s ch.toNat).isOpen = false) : grantConfirmAct [ch] s = refusedWith .absent s := by
  simp only [grantConfirmAct, channelGiven_some auxiliary, closed, if_true]

section Opened

variable {ch : Byte} {s : State} (auxiliary : 2 ≤ ch.toNat ∧ ch.toNat ≤ 11)
  (opened : (auxAt s ch.toNat).isOpen = true)

include auxiliary opened

/-- A confirm that finds an offer holds it. -/
theorem grantConfirmAct_offered {terms : Terms} {confirmBy : TimeTag}
    (offered : (auxAt s ch.toNat).grant = .offered terms confirmBy) :
    grantConfirmAct [ch] s = confirmGrant ch.toNat terms s := by
  simp only [grantConfirmAct, channelGiven_some auxiliary, opened, Bool.true_eq_false, if_false, offered]

/-- A confirm that finds NONE is LATE, whatever ended the offer. -/
theorem grantConfirmAct_none (ended : (auxAt s ch.toNat).grant = .none) :
    grantConfirmAct [ch] s = refusedWith .late s := by
  simp only [grantConfirmAct, channelGiven_some auxiliary, opened, Bool.true_eq_false, if_false, ended]

/-- A confirm of an ask that still waits is STATE. -/
theorem grantConfirmAct_queued (queued : (auxAt s ch.toNat).grant = .queued) :
    grantConfirmAct [ch] s = refusedWith .state s := by
  simp only [grantConfirmAct, channelGiven_some auxiliary, opened, Bool.true_eq_false, if_false, queued]

/-- A second confirm is STATE. -/
theorem grantConfirmAct_held {terms : Terms} {confirmTime : TimeTag} {exhaustAt : Option TimeTag}
    (held : (auxAt s ch.toNat).grant = .held terms confirmTime exhaustAt) :
    grantConfirmAct [ch] s = refusedWith .state s := by
  simp only [grantConfirmAct, channelGiven_some auxiliary, opened, Bool.true_eq_false, if_false, held]

end Opened

/-- The reply to a confirmed offer carries the power, the pool and the exhaustion expiry, and the channel is HELD from
this moment. -/
theorem confirmGrant_eq (channel : Nat) (terms : Terms) (s : State) :
    confirmGrant channel terms s =
      doneWith (be16 (BitVec.ofNat 16 terms.power) ++ [byteOf (poolCode terms.pool)] ++
          be32 ((exhaustionAt s.now (auxAt s channel).allowance (auxAt s channel).used terms.power).getD 0#32))
        (setAux channel { auxAt s channel with
          grant := .held terms s.now
            (exhaustionAt s.now (auxAt s channel).allowance (auxAt s channel).used terms.power) } s) := rfl

/-! ## The statement -/

/-- A GRANT_CONFIRM whose act refuses changes nothing but the port's queues. -/
theorem exec_grantConfirm_refused {tag ch : Byte} {s : State} {code : ResultCode} (ready : Ready 0x0E#8 tag [ch] s)
    (refused : grantConfirmAct [ch] (beginExecution ⟨0x0E#8, tag, [ch]⟩ s) =
      refusedWith code (beginExecution ⟨0x0E#8, tag, [ch]⟩ s)) :
    exec (.grantConfirm tag [ch]) s = .next (replied 0x0E#8 tag [byteOf (resultCode code)] s) := by
  rw [exec_grantConfirm, request_refused (length := 1) ready rfl rfl refused]

/-- Settles O19, by the checks of R60 in order and then the grant state found: each case is the act's equation for it, and
the rise of the HELD sum is `heldSum_hold`. -/
theorem grantConfirmHoldsAnOffer : Obligations.GrantConfirmHoldsAnOffer := by
  intro tag ch s ready
  refine ⟨fun outside => ?outside, fun auxiliary => ⟨fun closed => ?closed, fun opened =>
    ⟨fun terms confirmBy offered => ⟨?offered, heldSum_hold opened offered _ _⟩, fun ended => ?none,
      fun queued => ?queued, fun terms confirmTime exhaustAt held => ?held⟩⟩⟩
  case outside => exact exec_grantConfirm_refused ready (grantConfirmAct_outside outside)
  case closed => exact exec_grantConfirm_refused ready (grantConfirmAct_closed auxiliary closed)
  case offered =>
    have confirmed := (grantConfirmAct_offered (s := beginExecution ⟨0x0E#8, tag, [ch]⟩ s) auxiliary opened
      offered).trans (confirmGrant_eq _ _ _)
    rw [exec_grantConfirm, request_replied (length := 1) (code := .done) (t := setAux ch.toNat _ s) ready rfl rfl rfl
      confirmed]
    rfl
  case none => exact exec_grantConfirm_refused ready (grantConfirmAct_none auxiliary opened ended)
  case queued => exact exec_grantConfirm_refused ready (grantConfirmAct_queued auxiliary opened queued)
  case held => exact exec_grantConfirm_refused ready (grantConfirmAct_held auxiliary opened held)

end Sys2Proof.Proofs.GrantConfirmation
end

