-- ==== Sys2Proof/Proofs/EventsAndMasks.lean ====
section
/-! EVENTS_READ, NOTICE_MASK_SET and ALERT_MASK_SET (R181, R185, R186): which counts and which sets of kinds the requests
accept, what each writes, and ALERT as judged on the entries and the mask that are left. -/

namespace Sys2Proof.Proofs.EventsAndMasks

open Sys2Proof.Machine Sys2Proof.Safety

/-! ## Four-byte sets of event kinds -/

/-- A word of two halves is sent as the upper half's bytes, then the lower half's. -/
theorem be32_append (hi lo : Word16) : be32 (hi ++ lo) = be16 hi ++ be16 lo := by
  have upper (start : Nat) : (hi ++ lo).extractLsb' (16 + start) 8 = hi.extractLsb' start 8 := by
    rw [BitVec.extractLsb'_append_eq_of_le (by omega), Nat.add_sub_cancel_left]
  have lower (start : Nat) (h : start + 8 ≤ 16) : (hi ++ lo).extractLsb' start 8 = lo.extractLsb' start 8 :=
    BitVec.extractLsb'_append_eq_of_add_le h
  rw [be32, upper 8, upper 0, lower 8 (by decide), lower 0 (by decide)]
  rfl

theorem be16_append (hi lo : Byte) : be16 (hi ++ lo) = [hi, lo] := by
  rw [be16, BitVec.extractLsb'_append_eq_left, BitVec.extractLsb'_append_eq_right]

/-- The four bytes of a word, sent again, are the bytes received. -/
theorem be32_word32 (b3 b2 b1 b0 : Byte) : be32 (word32 b3 b2 b1 b0) = [b3, b2, b1, b0] := by
  rw [word32, be32_append, be16_append, be16_append, List.cons_append, List.cons_append, List.nil_append]

theorem word32_and (a3 a2 a1 a0 b3 b2 b1 b0 : Byte) :
    word32 a3 a2 a1 a0 &&& word32 b3 b2 b1 b0 = word32 (a3 &&& b3) (a2 &&& b2) (a1 &&& b1) (a0 &&& b0) :=
  BitVec.and_append.trans (congrArg₂ (· ++ ·) BitVec.and_append BitVec.and_append)

/-- A set names kinds only when its most significant byte has no bit but bit 0, the bit of kind 25. -/
theorem kindsOnly_word32 (b3 b2 b1 b0 : Byte) : kindsOnly (word32 b3 b2 b1 b0) = decide (b3.toNat < 2) := by
  have outside : ~~~allKinds = word32 0xFE#8 0#8 0#8 0#8 := by decide
  have top : ∀ b : Byte, decide (word32 (b &&& 0xFE#8) 0#8 0#8 0#8 = 0#32) = decide (b.toNat < 2) := by decide
  rw [kindsOnly, outside, word32_and, BitVec.and_zero, BitVec.and_zero, BitVec.and_zero]
  exact top b3

/-! ## EVENTS_READ -/

theorem exec_eventsRead (tag : Byte) (payload : List Byte) (s : State) :
    exec (.eventsRead tag payload) s = .next (request 0x24#8 1 tag payload (eventsReadAct payload) s) := rfl

/-- A count outside 1 to 8 is RANGE. -/
theorem eventsReadAct_outside {n : Byte} {s : State} (outside : n.toNat < 1 ∨ 8 < n.toNat) :
    eventsReadAct [n] s = refusedWith .range s := if_pos outside

/-- A count of 1 to 8 removes and returns the oldest entries up to the count; the entries left are those behind them. -/
theorem eventsReadAct_within {n : Byte} {s : State} (within : 1 ≤ n.toNat ∧ n.toNat ≤ 8) :
    eventsReadAct [n] s =
      doneWith (byteOf (min n.toNat s.stack.entries.length) ::
        ((s.stack.entries.take n.toNat).flatMap entryBytes ++ [byteOf (s.stack.entries.length - n.toNat)] ++
          flag s.stack.overrun)) (readEvents n.toNat s) := by
  have counted : ¬ (n.toNat < 1 ∨ 8 < n.toNat) := by omega
  rw [← List.length_take, ← List.length_drop]
  exact if_neg counted

/-- Reading leaves the younger entries with OVERRUN clear, and ALERT is judged on them. -/
theorem readEvents_eq (n : Nat) (s : State) :
    readEvents n s =
      { s with
        stack := { s.stack with entries := s.stack.entries.drop n, overrun := false }
        outputs := { s.outputs with
          alert := (s.stack.entries.drop n).any fun e => inMask s.stack.alertMask e.kind } } := rfl

/-! ## NOTICE_MASK_SET and ALERT_MASK_SET -/

theorem exec_noticeMaskSet (tag : Byte) (payload : List Byte) (s : State) :
    exec (.noticeMaskSet tag payload) s = .next (request 0x25#8 4 tag payload (noticeMaskSetAct payload) s) := rfl

theorem exec_alertMaskSet (tag : Byte) (payload : List Byte) (s : State) :
    exec (.alertMaskSet tag payload) s = .next (request 0x26#8 4 tag payload (alertMaskSetAct payload) s) := rfl

/-- The state with this notice mask. -/
def withNoticeMask (set : Word32) (s : State) : State := { s with port := { s.port with noticeMask := set } }

/-- The state with this alert mask, ALERT judged on it at once. -/
def withAlertMask (set : Word32) (s : State) : State :=
  judgeAlert { s with stack := { s.stack with alertMask := set } }

/-- A set of the 25 kinds becomes the notice mask and is returned; a set that names anything else is RANGE (R181). -/
theorem noticeMaskSetAct_eq (b3 b2 b1 b0 : Byte) (s : State) :
    noticeMaskSetAct [b3, b2, b1, b0] s =
      if b3.toNat < 2 then doneWith [b3, b2, b1, b0] (withNoticeMask (word32 b3 b2 b1 b0) s)
      else refusedWith .range s := by
  have operand : at32 [b3, b2, b1, b0] 0 = word32 b3 b2 b1 b0 := rfl
  simp only [noticeMaskSetAct, operand, kindsOnly_word32, be32_word32, decide_eq_true_eq, withNoticeMask]

/-- A set of the 25 kinds becomes the alert mask and is returned; a set that names anything else is RANGE (R186). -/
theorem alertMaskSetAct_eq (b3 b2 b1 b0 : Byte) (s : State) :
    alertMaskSetAct [b3, b2, b1, b0] s =
      if b3.toNat < 2 then doneWith [b3, b2, b1, b0] (withAlertMask (word32 b3 b2 b1 b0) s)
      else refusedWith .range s := by
  have operand : at32 [b3, b2, b1, b0] 0 = word32 b3 b2 b1 b0 := rfl
  simp only [alertMaskSetAct, operand, kindsOnly_word32, be32_word32, decide_eq_true_eq, withAlertMask]

/-- ALERT under the new mask is the OR, over the entries that wait, of the mask's bits for their kinds. -/
theorem withAlertMask_eq (set : Word32) (s : State) :
    withAlertMask set s =
      { s with
        stack := { s.stack with alertMask := set }
        outputs := { s.outputs with alert := s.stack.entries.any fun e => inMask set e.kind } } := rfl

/-! ## A request whose act may write the port -/

/-- A request whose act, once begun, comes to t with the same request begun: it is answered, and the state is t but for the
port's queues. `request_replied` asks that the act keep the port; this one also serves NOTICE_MASK_SET, which writes it. -/
theorem request_begun {kind tag : Byte} {length : Nat} {payload : List Byte} {act : State → State × Answer}
    {s t : State} {code : ResultCode} {fields : List Byte} (ready : Ready kind tag payload s)
    (defined : kindDefined kind = true) (len : payload.length = length)
    (h : act (beginExecution ⟨kind, tag, payload⟩ s) = (beginExecution ⟨kind, tag, payload⟩ t, ⟨code, fields⟩)) :
    request kind length tag payload act s = replied kind tag (byteOf (resultCode code) :: fields) t := by
  rw [request_done (canExecute_of_ready ready) len, h]
  simp [endExecution, queueReply, replyFrame, replyKind, defined, replied, repliedPort, beginExecution, u8,
    lineTakes_requests]

/-! ## The statement -/

/-- Settles O48: each request by the range of its operand, from the act's equation for it. -/
theorem eventsAreReadAndMasksSet : Obligations.EventsAreReadAndMasksSet := by
  refine ⟨fun tag n s ready => ⟨fun outside => ?eventsRange, fun within => ?eventsRead⟩,
    fun tag b3 b2 b1 b0 s => ⟨fun ready => ⟨fun outside => ?noticeRange, fun kinds => ?noticeSet⟩,
      fun ready => ⟨fun outside => ?alertRange, fun kinds => ?alertSet⟩⟩⟩
  case eventsRange =>
    rw [exec_eventsRead, request_refused (length := 1) ready rfl rfl (eventsReadAct_outside outside)]
    rfl
  case eventsRead =>
    rw [exec_eventsRead, request_replied (length := 1) (t := readEvents n.toNat s) ready rfl rfl rfl
      (eventsReadAct_within within), readEvents_eq]
    rfl
  case noticeRange =>
    rw [exec_noticeMaskSet, request_refused (length := 4) ready rfl rfl
      ((noticeMaskSetAct_eq ..).trans (if_neg (Nat.not_lt.mpr outside)))]
    rfl
  case noticeSet =>
    rw [exec_noticeMaskSet, request_begun (length := 4) (t := withNoticeMask (word32 b3 b2 b1 b0) s) ready rfl rfl
      ((noticeMaskSetAct_eq ..).trans (if_pos kinds))]
    rfl
  case alertRange =>
    rw [exec_alertMaskSet, request_refused (length := 4) ready rfl rfl
      ((alertMaskSetAct_eq ..).trans (if_neg (Nat.not_lt.mpr outside)))]
    rfl
  case alertSet =>
    rw [exec_alertMaskSet, request_replied (length := 4) (t := withAlertMask (word32 b3 b2 b1 b0) s) ready rfl rfl rfl
      ((alertMaskSetAct_eq ..).trans (if_pos kinds)), withAlertMask_eq]
    rfl

end Sys2Proof.Proofs.EventsAndMasks
end
